-- ==== Sys2Proof/Word.lean ====
section
/-! DEFINITION. The word types of BLSYNC-v7. Every register, field, count and byte is unsigned (00_scope R9). -/

namespace Sys2Proof

/-- A byte: 8 bits (R9). -/
abbrev Byte := BitVec 8

/-- A HOST word and the width of the block's wide registers: 32 bits (20_memory R65). -/
abbrev Word := BitVec 32

/-- A HOST byte offset: 17 bits (20_memory R60). -/
abbrev Offset := BitVec 17

/-- A code of STATE: 5 bits (10_state R21). -/
abbrev StateCode := BitVec 5

/-- A HOST transaction word: 50 bits (30_encoding R94). -/
abbrev TxnWord := BitVec 50

end Sys2Proof
end

