-- ==== Sys2Proof/Config.lean ====
section
/-! DEFINITION. What an implementation and its surroundings fix: LINE's configuration record, the OPEN parameters of
00_scope R8, the events that reach the machine, and the free values: which configurations LINE takes, and the order of events, as far as the
spec leaves them open. -/

namespace Sys2Proof

/-- Bits per character (10_state R41: 5, 6, 7 or 8). -/
inductive DataBits where
  | five | six | seven | eight
deriving DecidableEq, Repr, Inhabited

/-- Parity (10_state R41). -/
inductive Parity where
  | none | even | odd
deriving DecidableEq, Repr, Inhabited

/-- Stop bits (10_state R41: 1 or 2). -/
inductive StopBits where
  | one | two
deriving DecidableEq, Repr, Inhabited

/-- A LineCfg record (10_state R41). `other` stands for every setting the document does not name: the model only
copies and compares it (log 19). -/
structure LineCfg where
  baud : Nat
  dataBits : DataBits
  parity : Parity
  stopBits : StopBits
  hwFlow : Bool
  inFlowXlate : Bool
  ignoreModem : Bool
  rxEnable : Bool
  raw : Bool
  other : Nat
deriving DecidableEq, Repr, Inhabited

/-- One entry of LINE's receive queue (10_state R42). -/
inductive RxEntry where
  | byte (b : Byte)
  | error
  | closed
deriving DecidableEq, Repr, Inhabited

/-- What TxByte answers when LINE does not stall (10_state R40). -/
inductive TxState where
  | ok | error | closed
deriving DecidableEq, Repr, Inhabited

/-- RX_OVERRUN: what LINE does with a byte that arrives when its receive queue is full (10_state R46, D38). -/
inductive OverrunPolicy where
  | drop | appendError
deriving DecidableEq, Repr, Inhabited

/-- RX_LINE_ERRORS: how a framing error, a parity error or a break shows in rxq (10_state R46, D40). -/
inductive LineErrorPolicy where
  | appendError | appendByte | drop
deriving DecidableEq, Repr, Inhabited

/-- FREE VALUE. The predicates line_supports that no list describes: nothing is known of the k-th (00_scope R8, 92_eei_decisions
D10; log 4). -/
opaque Config.lineSupports : Nat → LineCfg → Bool

/-- The OPEN predicate line_supports(cfg) of 00_scope R8, as plain data: a line that takes all but the listed configurations,
only the listed ones, or every configuration at a listed rate, and, with `free`, any predicate at all (log 4). -/
inductive LineSupport where
  | allBut (refused : List LineCfg)
  | only (taken : List LineCfg)
  | rates (bauds : List Nat)
  | free (k : Nat)
deriving DecidableEq, Repr, Inhabited

/-- The OPEN parameters of 00_scope R8: "arguments of the model". They stand in State, no step changes one, and a claim
about every state is a claim about every value of them (log 3). -/
structure Params where
  fClk : Nat
  timerW : Nat
  backoffMs : Nat
  probeDelayMs : Nat
  payloadCap : Nat
  lineSupport : LineSupport
  rxOverrun : OverrunPolicy
  rxLineErrors : LineErrorPolicy
deriving DecidableEq, Repr, Inhabited

/-- The spec's defaults (00_scope R8). DESIGN CHOICE where R8 gives none: F_CLK, TIMER_W (95_test_vectors L2.10's first
row), RX_OVERRUN and RX_LINE_ERRORS (log 3, log 4, log 20). -/
def Params.default : Params where
  fClk := 1000000
  timerW := 22
  backoffMs := 3000
  probeDelayMs := 0
  payloadCap := 65535
  lineSupport := .allBut []
  rxOverrun := .drop
  rxLineErrors := .appendError

/-- A step of LINE's own (10_state R45, R46, R43, R47). -/
inductive LineEvent where
  /-- The peer sends: entries are appended to rxq (R45; the `RX+` lines of 30_encoding R96). -/
  | rx (entries : List RxEntry)
  /-- A byte arrives while LINE's queue is full: RX_OVERRUN decides (R46). -/
  | overrun
  /-- A framing error, a parity error or a break, with the byte it would give: RX_LINE_ERRORS decides (R46). -/
  | lineError (b : Byte)
  /-- LINE changes tx_state (R45). -/
  | setTxState (t : TxState)
  /-- LINE changes whether a line can be opened (R45). -/
  | setPresent (p : Bool)
  /-- LINE changes whether the next TxByte stalls (R45). -/
  | setTxReady (r : Bool)
  /-- LINE's draw for the next LineCfgGet (40_line_transport R115). -/
  | setGetOk (ok : Bool)
  /-- LINE's draw for the next LineCfgSet (R115). -/
  | setSetOk (ok : Bool)
  /-- The oldest accepted byte that is not on the wire yet goes onto the wire (R43). -/
  | emit
  /-- Another agent configures LINE, which it may only while the block does not own it (R47, 70_reset R272). -/
  | reconfigure (c : LineCfg)
deriving DecidableEq, Repr, Inhabited

/-- One atomic event of a run (20_memory R71). `host`, `pin`, `wireOut`, `syncIn` and `infoIn` carry raw bits, which the
step decodes; `seq` runs the instruction whose code STATE holds. -/
inductive Event where
  /-- A SEQ step (00_scope R11). -/
  | seq
  /-- A HOST access: its width in bits, and the transaction word of 30_encoding R94. -/
  | host (width : Nat) (word : TxnWord)
  /-- A `clk` cycle's sample of `cancel_in` (44_host_interface R203). -/
  | pin (level : BitVec 1)
  /-- The block's frame encoder puts this frame on the transmit stream (30_encoding R101, outbound; log 11). -/
  | wireOut (bytes : List Byte)
  /-- The peer's sync response arrives (30_encoding R85; log 10). -/
  | syncIn (bytes : List Byte)
  /-- The peer's info response arrives (30_encoding R86; log 10). -/
  | infoIn (bytes : List Byte)
  /-- A step of LINE's own. -/
  | line (e : LineEvent)
  /-- The timer's part of a `clk` cycle (60_exceptions R252). -/
  | tick
  /-- The untimed model's expiry of the timer (R252). -/
  | expire
  /-- A whole `clk` cycle of the timed model: the timer's part, then the SEQ step (R252, 70_reset R291; log 14). -/
  | clk
  /-- The `rst` pin takes this level for a `clk` cycle (70_reset R270). -/
  | rst (level : Bool)
deriving DecidableEq, Repr, Inhabited

/-- FREE VALUE. The event that happens next where State holds none: the interleaving and LINE's behaviour are left open
(00_scope R7, R14), so nothing is known of it (log 1). -/
opaque Config.freeEvent : Nat → Event

end Sys2Proof
end

