-- ==== Sys2Proof/Syntax.lean ====
section
/-! DEFINITION. The rows of spec/opcode_table.json, one constructor each: HOST transactions, the `cancel_in` pin, wire
frames and sequencer states. An operand is a field of the row that its match does not fix. -/

namespace Sys2Proof

/-- One row of spec/opcode_table.json with its operands. `data` is DATA[31:0] of the transaction word (30_encoding R94). -/
inductive Instr where
  /-- START (R201): DATA bit 0 is 1. -/
  | start (data : Word)
  /-- CANCEL (R202): DATA bit 1 is 1 and bit 0 is 0. -/
  | cancel (data : Word)
  /-- CTRL_NOP (R216): DATA bits 1:0 are 0. -/
  | ctrlNop (data : Word)
  /-- BAUD_WR (R205). -/
  | baudWr (data : Word)
  /-- STATUS_WR (R216). -/
  | statusWr (data : Word)
  /-- ATTEMPTS_WR (R216). -/
  | attemptsWr (data : Word)
  /-- PULSES_WR (R216). -/
  | pulsesWr (data : Word)
  /-- INFO_LEN_WR (R216). -/
  | infoLenWr (data : Word)
  /-- FAULT_INFO_WR (R216). -/
  | faultInfoWr (data : Word)
  /-- PAY_COUNT_WR (R216). -/
  | payCountWr (data : Word)
  /-- PAY_WR (R216): the payload window's word k. -/
  | payWr (k : BitVec 14) (data : Word)
  /-- CTRL_RD (R216). -/
  | ctrlRd (data : Word)
  /-- BAUD_RD (R206). -/
  | baudRd (data : Word)
  /-- STATUS_RD (R207). -/
  | statusRd (data : Word)
  /-- ATTEMPTS_RD (R208). -/
  | attemptsRd (data : Word)
  /-- PULSES_RD (R209). -/
  | pulsesRd (data : Word)
  /-- INFO_LEN_RD (R210). -/
  | infoLenRd (data : Word)
  /-- FAULT_INFO_RD (R211). -/
  | faultInfoRd (data : Word)
  /-- PAY_COUNT_RD (R212). -/
  | payCountRd (data : Word)
  /-- PAY_RD (R213): the payload window's word k. -/
  | payRd (k : BitVec 14) (data : Word)
  /-- RSVD_WR (R62): OFF = 4 × idx, 0x020 to 0x0FFFC. -/
  | rsvdWr (idx : BitVec 14) (data : Word)
  /-- RSVD_RD (R62): OFF = 4 × idx, 0x020 to 0x0FFFC. -/
  | rsvdRd (idx : BitVec 14) (data : Word)
  /-- MISALIGNED_B0 (R66): OFF = offHi, then 1. -/
  | misalignedB0 (we : BitVec 1) (offHi : BitVec 16) (data : Word)
  /-- MISALIGNED_B1 (R66): OFF = offHi, then 10. -/
  | misalignedB1 (we : BitVec 1) (offHi : BitVec 15) (data : Word)
  /-- CANCEL_IN (R203): `cancel_in` is 1. -/
  | cancelIn
  /-- PULSE (R82): one byte 0x55 of the pulse train. -/
  | pulse
  /-- HANDSHAKE (R83): the 12-byte Handshake Frame. -/
  | handshake
  /-- INFO_CMD (R84): the 4-byte info Command Frame. -/
  | infoCmd
  /-- SYNC_ACK (R85): 4F 4B and any three trailer bytes. -/
  | syncAck (t0 t1 t2 : Byte)
  /-- INFO_RESP (R86): 4F 4B, the length, and that many payload bytes. -/
  | infoResp (len : BitVec 16) (payload : List Byte)
  /-- S_IDLE, code 0x00 (R98). -/
  | sIdle
  /-- S_OPEN, code 0x01 (R110). -/
  | sOpen
  /-- S_GETCFG, code 0x02 (R111). -/
  | sGetcfg
  /-- S_SETCFG, code 0x03 (R112). -/
  | sSetcfg
  /-- S_PULSE, code 0x04 (R152). -/
  | sPulse
  /-- S_SETTLE, code 0x05 (R153). -/
  | sSettle
  /-- S_HSHAKE, code 0x06 (R154). -/
  | sHshake
  /-- S_PROBE, code 0x07 (R155). -/
  | sProbe
  /-- S_ACK_O, code 0x08 (R156). -/
  | sAckO
  /-- S_ACK_K, code 0x09 (R157). -/
  | sAckK
  /-- S_DRAIN, code 0x0A (R158). -/
  | sDrain
  /-- S_FAILCHK, code 0x0B (R159). -/
  | sFailchk
  /-- S_BACKOFF, code 0x0C (R160). -/
  | sBackoff
  /-- S_INFO_TX, code 0x0D (R181). -/
  | sInfoTx
  /-- S_INFO_ACK, code 0x0E (R182). -/
  | sInfoAck
  /-- S_INFO_LEN, code 0x0F (R183). -/
  | sInfoLen
  /-- S_INFO_PAY, code 0x10 (R184). -/
  | sInfoPay
  /-- S_RESTORE, code 0x11 (R114). -/
  | sRestore
  /-- S_DONE, code 0x12 (R98). -/
  | sDone
  /-- RESERVED_STATE, code 0x13 (R100). -/
  | reservedState13
  /-- RESERVED_STATE, codes 0x14 to 0x17 (R100). -/
  | reservedState14 (lo : BitVec 2)
  /-- RESERVED_STATE, codes 0x18 to 0x1F (R100). -/
  | reservedState18 (lo : BitVec 3)
deriving DecidableEq, Repr

end Sys2Proof
end

