-- ==== Sys2Proof/WellFormed.lean ====
section
/-! DEFINITION. Which operands a row's match admits (30_encoding R94, R86, R95). -/

namespace Sys2Proof

/-- The operands are ones that the instruction's row of the opcode table matches, read in file order (30_encoding R94). -/
def Instr.wellFormed : Instr → Bool
  | .start data => data.getLsbD 0
  | .cancel data => !data.getLsbD 0 && data.getLsbD 1
  | .ctrlNop data => !data.getLsbD 0 && !data.getLsbD 1
  | .rsvdWr idx _ => decide (8 ≤ idx.toNat)
  | .rsvdRd idx _ => decide (8 ≤ idx.toNat)
  | .infoResp len payload => payload.length == len.toNat
  | .baudWr _ => true
  | .statusWr _ => true
  | .attemptsWr _ => true
  | .pulsesWr _ => true
  | .infoLenWr _ => true
  | .faultInfoWr _ => true
  | .payCountWr _ => true
  | .payWr _ _ => true
  | .ctrlRd _ => true
  | .baudRd _ => true
  | .statusRd _ => true
  | .attemptsRd _ => true
  | .pulsesRd _ => true
  | .infoLenRd _ => true
  | .faultInfoRd _ => true
  | .payCountRd _ => true
  | .payRd _ _ => true
  | .misalignedB0 _ _ _ => true
  | .misalignedB1 _ _ _ => true
  | .cancelIn => true
  | .pulse => true
  | .handshake => true
  | .infoCmd => true
  | .syncAck _ _ _ => true
  | .sIdle => true
  | .sOpen => true
  | .sGetcfg => true
  | .sSetcfg => true
  | .sPulse => true
  | .sSettle => true
  | .sHshake => true
  | .sProbe => true
  | .sAckO => true
  | .sAckK => true
  | .sDrain => true
  | .sFailchk => true
  | .sBackoff => true
  | .sInfoTx => true
  | .sInfoAck => true
  | .sInfoLen => true
  | .sInfoPay => true
  | .sRestore => true
  | .sDone => true
  | .reservedState13 => true
  | .reservedState14 _ => true
  | .reservedState18 _ => true

end Sys2Proof
end

