-- ==== Sys2Proof/Decode.lean ====
section
/-! DEFINITION. The encodings of 30_encoding: the constant frames, the decoder, the encoder, the opcode table's rows as
masks and patterns, and the assembler's words. -/

namespace Sys2Proof

/-! ## Constants of the wire (10_state R51; 30_encoding R82 to R85) -/

/-- The autobaud pulse byte (R82). -/
def pulseByte : Byte := 0x55#8

/-- The first acknowledgment byte, 'O' (R85). -/
def ackO : Byte := 0x4F#8

/-- The second acknowledgment byte, 'K' (R85). -/
def ackK : Byte := 0x4B#8

/-- The Handshake Frame (R83), in transmission order; its payload is opaque (R102). -/
def handshakeFrame : List Byte :=
  [0x50#8, 0x00#8, 0x08#8, 0x00#8, 0x38#8, 0xF0#8, 0x00#8, 0x20#8, 0x00#8, 0x00#8, 0x00#8, 0x18#8]

/-- The info Command Frame (R84), in transmission order. -/
def infoCmdFrame : List Byte := [0x10#8, 0x00#8, 0x00#8, 0x00#8]

/-- An acknowledgment pair is valid when it is 4F 4B (R89). -/
def ackValid (a0 a1 : Byte) : Bool := a0 == ackO && a1 == ackK

/-- The 16-bit length from two wire bytes, low byte first (R87): the concatenation of b1 above b0. -/
def len16 (b0 b1 : Byte) : BitVec 16 := b1 ++ b0

/-! ## Sequencer state codes (30_encoding R98) -/

def codeIdle : StateCode := 0x00#5
def codeOpen : StateCode := 0x01#5
def codeGetcfg : StateCode := 0x02#5
def codeSetcfg : StateCode := 0x03#5
def codePulse : StateCode := 0x04#5
def codeSettle : StateCode := 0x05#5
def codeHshake : StateCode := 0x06#5
def codeProbe : StateCode := 0x07#5
def codeAckO : StateCode := 0x08#5
def codeAckK : StateCode := 0x09#5
def codeDrain : StateCode := 0x0A#5
def codeFailchk : StateCode := 0x0B#5
def codeBackoff : StateCode := 0x0C#5
def codeInfoTx : StateCode := 0x0D#5
def codeInfoAck : StateCode := 0x0E#5
def codeInfoLen : StateCode := 0x0F#5
def codeInfoPay : StateCode := 0x10#5
def codeRestore : StateCode := 0x11#5
def codeDone : StateCode := 0x12#5

/-! ## The encoded forms -/

/-- An instruction as the machine meets it, in the table's formats (30_encoding R94). A received frame says which of the
decoder's two readers it is for, since its bytes alone do not (R93; log 12). -/
inductive Encoded where
  | host (width : Nat) (word : TxnWord)
  | pin (level : BitVec 1)
  | wireOut (bytes : List Byte)
  | syncIn (bytes : List Byte)
  | infoIn (bytes : List Byte)
  | seq (code : StateCode)
deriving DecidableEq, Repr

/-- Why bits are no instruction. -/
inductive Reject where
  /-- A HOST access that is not 32 bits wide (20_memory R66). -/
  | accessWidth
  /-- `cancel_in` is 0: nothing is requested (44_host_interface R203). -/
  | pinLow
  /-- Bytes the block's frame encoder never sends (30_encoding R90). -/
  | notSent
  /-- Bytes that are not a whole valid sync response (R85). -/
  | notSyncResponse
  /-- Bytes that are not a whole valid info response (R86). -/
  | notInfoResponse
deriving DecidableEq, Repr

/-! ## The decoder -/

/-- The transaction word of a write-enable, an offset and data (30_encoding R94). -/
def txnWord (we : BitVec 1) (off : Offset) (data : Word) : TxnWord := we ++ off ++ data

/-- The offset of word index `idx` of the register space or, with `page` 1, of the payload window (20_memory R61). -/
def wordOffset (page : BitVec 1) (idx : BitVec 14) : Offset := page ++ idx ++ 0#2

/-- A CTRL write by its two action bits, START before CANCEL (30_encoding R95). -/
def decodeCtrl (data : Word) : Instr :=
  if data.getLsbD 0 then .start data
  else if data.getLsbD 1 then .cancel data
  else .ctrlNop data

/-- An aligned write below the window, by its word index (20_memory R61, R62). -/
def decodeWrite (idx : BitVec 14) (data : Word) : Instr :=
  match idx.toNat with
  | 0 => decodeCtrl data
  | 1 => .baudWr data
  | 2 => .statusWr data
  | 3 => .attemptsWr data
  | 4 => .pulsesWr data
  | 5 => .infoLenWr data
  | 6 => .faultInfoWr data
  | 7 => .payCountWr data
  | _ => .rsvdWr idx data

/-- An aligned read below the window, by its word index (20_memory R61, R62). -/
def decodeRead (idx : BitVec 14) (data : Word) : Instr :=
  match idx.toNat with
  | 0 => .ctrlRd data
  | 1 => .baudRd data
  | 2 => .statusRd data
  | 3 => .attemptsRd data
  | 4 => .pulsesRd data
  | 5 => .infoLenRd data
  | 6 => .faultInfoRd data
  | 7 => .payCountRd data
  | _ => .rsvdRd idx data

/-- An access split into its fields: misalignment comes before everything (30_encoding R94), then the window by OFF[16]. -/
def decodeFields (we : BitVec 1) (off : Offset) (data : Word) : Instr :=
  if off.getLsbD 0 then .misalignedB0 we (off.extractLsb' 1 16) data
  else if off.getLsbD 1 then .misalignedB1 we (off.extractLsb' 2 15) data
  else if off.getLsbD 16 then
    (if we = 1#1 then .payWr (off.extractLsb' 2 14) data else .payRd (off.extractLsb' 2 14) data)
  else if we = 1#1 then decodeWrite (off.extractLsb' 2 14) data
  else decodeRead (off.extractLsb' 2 14) data

/-- The row a transaction word selects (30_encoding R94): WE is bit 49, OFF bits 48:32, DATA bits 31:0. -/
def decodeHost (w : TxnWord) : Instr :=
  decodeFields (w.extractLsb' 49 1) (w.extractLsb' 32 17) (w.extractLsb' 0 32)

/-- A frame the block sends (30_encoding R82 to R84); it sends no other (R90). -/
def decodeWireOut (bs : List Byte) : Except Reject Instr :=
  if bs = [pulseByte] then .ok .pulse
  else if bs = handshakeFrame then .ok .handshake
  else if bs = infoCmdFrame then .ok .infoCmd
  else .error .notSent

/-- The sync response's five bytes (30_encoding R85). -/
def decodeSync (bs : List Byte) : Except Reject Instr :=
  match bs with
  | [a0, a1, t0, t1, t2] => if ackValid a0 a1 then .ok (.syncAck t0 t1 t2) else .error .notSyncResponse
  | _ => .error .notSyncResponse

/-- The info response's 4 + L bytes (30_encoding R86). -/
def decodeInfo (bs : List Byte) : Except Reject Instr :=
  match bs with
  | a0 :: a1 :: l0 :: l1 :: payload =>
    if ackValid a0 a1 && payload.length == (len16 l0 l1).toNat then .ok (.infoResp (len16 l0 l1) payload)
    else .error .notInfoResponse
  | _ => .error .notInfoResponse

/-- The instruction a STATE code names (30_encoding R98, R100). -/
def decodeSeq (code : StateCode) : Instr :=
  match code.toNat with
  | 0x00 => .sIdle
  | 0x01 => .sOpen
  | 0x02 => .sGetcfg
  | 0x03 => .sSetcfg
  | 0x04 => .sPulse
  | 0x05 => .sSettle
  | 0x06 => .sHshake
  | 0x07 => .sProbe
  | 0x08 => .sAckO
  | 0x09 => .sAckK
  | 0x0A => .sDrain
  | 0x0B => .sFailchk
  | 0x0C => .sBackoff
  | 0x0D => .sInfoTx
  | 0x0E => .sInfoAck
  | 0x0F => .sInfoLen
  | 0x10 => .sInfoPay
  | 0x11 => .sRestore
  | 0x12 => .sDone
  | 0x13 => .reservedState13
  | _ => if code.getLsbD 3 then .reservedState18 (code.extractLsb' 0 3) else .reservedState14 (code.extractLsb' 0 2)

/-- The decoder: total on every encoded form, rejecting by name. -/
def decode (x : Encoded) : Except Reject Instr :=
  match x with
  | .host width w => if width = 32 then .ok (decodeHost w) else .error .accessWidth
  | .pin level => if level = 1#1 then .ok .cancelIn else .error .pinLow
  | .wireOut bs => decodeWireOut bs
  | .syncIn bs => decodeSync bs
  | .infoIn bs => decodeInfo bs
  | .seq code => .ok (decodeSeq code)

/-! ## The encoder -/

/-- A 32-bit write of a register by word index. -/
def encodeWrite (idx : BitVec 14) (data : Word) : Encoded := .host 32 (txnWord 1#1 (wordOffset 0#1 idx) data)

/-- A 32-bit read of a register by word index. -/
def encodeRead (idx : BitVec 14) (data : Word) : Encoded := .host 32 (txnWord 0#1 (wordOffset 0#1 idx) data)

/-- The encoded form of an instruction (30_encoding R81 to R86, R94, R98). -/
def encode (i : Instr) : Encoded :=
  match i with
  | .start data => encodeWrite 0#14 data
  | .cancel data => encodeWrite 0#14 data
  | .ctrlNop data => encodeWrite 0#14 data
  | .baudWr data => encodeWrite 1#14 data
  | .statusWr data => encodeWrite 2#14 data
  | .attemptsWr data => encodeWrite 3#14 data
  | .pulsesWr data => encodeWrite 4#14 data
  | .infoLenWr data => encodeWrite 5#14 data
  | .faultInfoWr data => encodeWrite 6#14 data
  | .payCountWr data => encodeWrite 7#14 data
  | .payWr k data => .host 32 (txnWord 1#1 (wordOffset 1#1 k) data)
  | .ctrlRd data => encodeRead 0#14 data
  | .baudRd data => encodeRead 1#14 data
  | .statusRd data => encodeRead 2#14 data
  | .attemptsRd data => encodeRead 3#14 data
  | .pulsesRd data => encodeRead 4#14 data
  | .infoLenRd data => encodeRead 5#14 data
  | .faultInfoRd data => encodeRead 6#14 data
  | .payCountRd data => encodeRead 7#14 data
  | .payRd k data => .host 32 (txnWord 0#1 (wordOffset 1#1 k) data)
  | .rsvdWr idx data => encodeWrite idx data
  | .rsvdRd idx data => encodeRead idx data
  | .misalignedB0 we offHi data => .host 32 (txnWord we (offHi ++ 1#1) data)
  | .misalignedB1 we offHi data => .host 32 (txnWord we (offHi ++ 2#2) data)
  | .cancelIn => .pin 1#1
  | .pulse => .wireOut [pulseByte]
  | .handshake => .wireOut handshakeFrame
  | .infoCmd => .wireOut infoCmdFrame
  | .syncAck t0 t1 t2 => .syncIn [ackO, ackK, t0, t1, t2]
  | .infoResp len payload => .infoIn (ackO :: ackK :: len.extractLsb' 0 8 :: len.extractLsb' 8 8 :: payload)
  | .sIdle => .seq codeIdle
  | .sOpen => .seq codeOpen
  | .sGetcfg => .seq codeGetcfg
  | .sSetcfg => .seq codeSetcfg
  | .sPulse => .seq codePulse
  | .sSettle => .seq codeSettle
  | .sHshake => .seq codeHshake
  | .sProbe => .seq codeProbe
  | .sAckO => .seq codeAckO
  | .sAckK => .seq codeAckK
  | .sDrain => .seq codeDrain
  | .sFailchk => .seq codeFailchk
  | .sBackoff => .seq codeBackoff
  | .sInfoTx => .seq codeInfoTx
  | .sInfoAck => .seq codeInfoAck
  | .sInfoLen => .seq codeInfoLen
  | .sInfoPay => .seq codeInfoPay
  | .sRestore => .seq codeRestore
  | .sDone => .seq codeDone
  | .reservedState13 => .seq 0x13#5
  | .reservedState14 lo => .seq (0b101#3 ++ lo)
  | .reservedState18 lo => .seq (0b11#2 ++ lo)

/-! ## The opcode table's rows -/

/-- A row of the table in the format host_txn50: the access selects it when `word &&& mask = pattern` (30_encoding R94). -/
structure HostRow where
  pattern : TxnWord
  mask : TxnWord
deriving DecidableEq, Repr

/-- The 24 rows of the format host_txn50, in file order (spec/opcode_table.json). -/
def hostTable : List HostRow :=
  [⟨0x2000000000001#50, 0x3FFFF00000001#50⟩, ⟨0x2000000000002#50, 0x3FFFF00000002#50⟩,
   ⟨0x2000000000000#50, 0x3FFFF00000003#50⟩, ⟨0x2000400000000#50, 0x3FFFF00000000#50⟩,
   ⟨0x2000800000000#50, 0x3FFFF00000000#50⟩, ⟨0x2000C00000000#50, 0x3FFFF00000000#50⟩,
   ⟨0x2001000000000#50, 0x3FFFF00000000#50⟩, ⟨0x2001400000000#50, 0x3FFFF00000000#50⟩,
   ⟨0x2001800000000#50, 0x3FFFF00000000#50⟩, ⟨0x2001C00000000#50, 0x3FFFF00000000#50⟩,
   ⟨0x3000000000000#50, 0x3000300000000#50⟩, ⟨0x0000000000000#50, 0x3FFFF00000000#50⟩,
   ⟨0x0000400000000#50, 0x3FFFF00000000#50⟩, ⟨0x0000800000000#50, 0x3FFFF00000000#50⟩,
   ⟨0x0000C00000000#50, 0x3FFFF00000000#50⟩, ⟨0x0001000000000#50, 0x3FFFF00000000#50⟩,
   ⟨0x0001400000000#50, 0x3FFFF00000000#50⟩, ⟨0x0001800000000#50, 0x3FFFF00000000#50⟩,
   ⟨0x0001C00000000#50, 0x3FFFF00000000#50⟩, ⟨0x1000000000000#50, 0x3000300000000#50⟩,
   ⟨0x2000000000000#50, 0x3000300000000#50⟩, ⟨0x0000000000000#50, 0x3000300000000#50⟩,
   ⟨0x0000100000000#50, 0x0000100000000#50⟩, ⟨0x0000200000000#50, 0x0000200000000#50⟩]

/-- Whether a word matches a row (30_encoding R94). -/
def HostRow.hit (r : HostRow) (w : TxnWord) : Bool := w &&& r.mask == r.pattern

/-- The number of the row a word selects: a MISALIGNED row (22, 23) "whatever its position in the table", else the first
row in file order that it matches (30_encoding R94). -/
def hostRowNumber (w : TxnWord) : Nat :=
  if HostRow.hit ⟨0x0000100000000#50, 0x0000100000000#50⟩ w then 22
  else if HostRow.hit ⟨0x0000200000000#50, 0x0000200000000#50⟩ w then 23
  else hostTable.findIdx fun r => r.hit w

/-- The row of the host_txn50 format an instruction stands for, if it is a HOST access. -/
def Instr.hostRow? : Instr → Option Nat
  | .start _ => some 0
  | .cancel _ => some 1
  | .ctrlNop _ => some 2
  | .baudWr _ => some 3
  | .statusWr _ => some 4
  | .attemptsWr _ => some 5
  | .pulsesWr _ => some 6
  | .infoLenWr _ => some 7
  | .faultInfoWr _ => some 8
  | .payCountWr _ => some 9
  | .payWr _ _ => some 10
  | .ctrlRd _ => some 11
  | .baudRd _ => some 12
  | .statusRd _ => some 13
  | .attemptsRd _ => some 14
  | .pulsesRd _ => some 15
  | .infoLenRd _ => some 16
  | .faultInfoRd _ => some 17
  | .payCountRd _ => some 18
  | .payRd _ _ => some 19
  | .rsvdWr _ _ => some 20
  | .rsvdRd _ _ => some 21
  | .misalignedB0 _ _ _ => some 22
  | .misalignedB1 _ _ _ => some 23
  | .cancelIn => none
  | .pulse => none
  | .handshake => none
  | .infoCmd => none
  | .syncAck _ _ _ => none
  | .infoResp _ _ => none
  | .sIdle => none
  | .sOpen => none
  | .sGetcfg => none
  | .sSetcfg => none
  | .sPulse => none
  | .sSettle => none
  | .sHshake => none
  | .sProbe => none
  | .sAckO => none
  | .sAckK => none
  | .sDrain => none
  | .sFailchk => none
  | .sBackoff => none
  | .sInfoTx => none
  | .sInfoAck => none
  | .sInfoLen => none
  | .sInfoPay => none
  | .sRestore => none
  | .sDone => none
  | .reservedState13 => none
  | .reservedState14 _ => none
  | .reservedState18 _ => none

/-! ## Words of the opcode table -/

/-- The first `n` bytes of `w`, the least significant first. -/
def bytesOf : Nat → Nat → List Byte
  | 0, _ => []
  | n + 1, w => BitVec.ofNat 8 w :: bytesOf n (w / 256)

/-- The received or sent frame of four bytes: bytes that begin with the acknowledgment's 'O' are an info response, with
a payload of zeros. -/
def tableFrame4 (bs : List Byte) : Encoded :=
  match bs with
  | a0 :: a1 :: l0 :: l1 :: rest =>
    if a0 = ackO then .infoIn (a0 :: a1 :: l0 :: l1 :: (rest ++ List.replicate (len16 l0 l1).toNat 0#8))
    else .wireOut bs
  | _ => .wireOut bs

/-- The encoded form of a table word of `nbits` bits: the format is told by the length, since the table numbers four
formats from bit 0 (log 13). -/
def tableEncoded (nbits w : Nat) : Encoded :=
  if nbits = 1 then .pin (BitVec.ofNat 1 w)
  else if nbits ≤ 8 then (if w < 32 then .seq (BitVec.ofNat 5 w) else .wireOut (bytesOf 1 w))
  else if nbits = 32 then tableFrame4 (bytesOf 4 w)
  else if nbits = 40 then .syncIn (bytesOf 5 w)
  else if nbits = 50 ∨ nbits = 56 ∨ nbits = 64 then
    (if w < 2 ^ 50 then .host 32 (BitVec.ofNat 50 w) else .wireOut (bytesOf 8 w))
  else .wireOut (bytesOf (nbits / 8) w)

/-- The instruction the decoder reads from a table word. -/
def decodeTableWord (nbits w : Nat) : Option Instr :=
  match decode (tableEncoded nbits w) with
  | .ok i => some i
  | .error _ => none

/-! ## The assembler (30_encoding R96, R97) -/

/-- `HW off, data`. -/
def asmHW (off : Offset) (data : Word) : Event := .host 32 (txnWord 1#1 off data)

/-- `HR off`. -/
def asmHR (off : Offset) : Event := .host 32 (txnWord 0#1 off 0#32)

/-- The pseudo-instruction START. -/
def asmStart : Event := asmHW 0x000#17 0x00000001#32

/-- The pseudo-instruction CANCEL. -/
def asmCancel : Event := asmHW 0x000#17 0x00000002#32

/-- The pseudo-instruction SETBAUD B. -/
def asmSetBaud (b : Word) : Event := asmHW 0x004#17 b

/-- The pseudo-instruction RDPAY k. -/
def asmRdPay (k : BitVec 14) : Event := asmHR (wordOffset 1#1 k)

/-- The read that WAITDONE and WAITSTATE repeat. -/
def asmPoll : Event := asmHR 0x008#17

/-- WAITDONE ends when bit 9 of the value read is 1. -/
def waitDoneEnds (value : Word) : Bool := value.getLsbD 9

/-- WAITSTATE s ends when bits 4:0 of the value read are the code s. -/
def waitStateEnds (code : StateCode) (value : Word) : Bool := value.extractLsb' 0 5 == code

/-- `RX+ b0 b1 ...` of a peer script. -/
def asmRx (bs : List Byte) : Event := .line (.rx (bs.map .byte))

end Sys2Proof
end

