-- ==== Sys2Proof/Machine/State.lean ====
section
/-! DEFINITION. The state of the machine: the block's registers (10_state R21 to R39), LINE (R40 to R46), the parameters,
the pins, and the events still to come; why a step can stop; and the state right after reset (R54). -/

namespace Sys2Proof.Machine

/-- The session's outcome (10_state R29). -/
inductive SessionResult where
  | none | success | cancelled | fault
deriving DecidableEq, Repr

/-- The fault causes (60_exceptions R231); the codes 12 to 15 are never raised and cannot be held (log 27). -/
inductive Cause where
  | none | usage | lineOpen | cfgGet | cfgSet | txIo | txClosed | rxIo | rxClosed | infoNak | alloc | cfgRestore
deriving DecidableEq, Repr

/-- Sparse bytes: addresses strictly rising, and no entry equal to what an unlisted address reads as (log 7). -/
abbrev Memory := List Host.Cell

/-- The block's registers, each named by its rule of 10_state. -/
structure Block where
  /-- STATE (R21), the program counter. -/
  state : StateCode
  /-- BAUD (R22). -/
  baud : Word
  /-- SESSION_BAUD (R23). -/
  sessionBaud : Word
  /-- PULSES (R24). -/
  pulses : Word
  /-- IDX (R25). -/
  idx : Word
  /-- ATTEMPTS (R26). -/
  attempts : Word
  /-- CANCEL_FLAG (R27). -/
  cancelFlag : Bool
  /-- SYNCED (R28). -/
  synced : Bool
  /-- RESULT (R29). -/
  result : SessionResult
  /-- FAULT_CAUSE (R30). -/
  faultCause : Cause
  /-- FAULT_INFO (R31). -/
  faultInfo : Word
  /-- RESTORE_FAIL (R32). -/
  restoreFail : Bool
  /-- ACKB (R33). -/
  ackb : BitVec 16
  /-- LENB (R34). -/
  lenb : Byte
  /-- INFO_LEN (R35). -/
  infoLen : BitVec 16
  /-- LINE_HELD (R36). -/
  lineHeld : Bool
  /-- PAYLOAD (R37), by index. -/
  payload : Memory
  /-- PAY_COUNT (R37). -/
  payCount : BitVec 16
  /-- CFG_SAVED (R38). -/
  cfgSaved : LineCfg
  /-- CFG_SAVED_VALID (R38). -/
  cfgSavedValid : Bool
  /-- TIMER (R39), in ticks (log 14). -/
  timer : Nat
deriving DecidableEq, Repr

/-- A control request SEQ made of LINE, with LINE's answer (40_line_transport R115; log 22). -/
inductive LineReq where
  | openLine (ok : Bool)
  | cfgGet (ok : Bool)
  | cfgSet (c : LineCfg) (ok : Bool)
  | close
deriving DecidableEq, Repr

/-- The LINE agent (10_state R40 to R46). -/
structure Line where
  /-- Whether a line can be opened (R40). -/
  present : Bool
  /-- The current configuration (R40). -/
  cfg : LineCfg
  /-- The receive queue, oldest first (R42). -/
  rxq : List RxEntry
  /-- The bytes accepted from TxByte, in order (R43). -/
  txlog : List Byte
  /-- What TxByte answers when LINE does not stall (R40). -/
  txState : TxState
  /-- Whether LINE is ready to take a byte (R45, 41_byte_channel R130). -/
  txReady : Bool
  /-- LINE's draw for the next LineCfgGet (40_line_transport R115; log 6). -/
  getOk : Bool
  /-- LINE's draw for the next LineCfgSet (R115; log 6). -/
  setOk : Bool
  /-- How many bytes of txlog are on the wire (R43, R53; log 21). -/
  onWire : Nat
  /-- The control requests made so far (the model's own record; log 22). -/
  reqlog : List LineReq
deriving DecidableEq, Repr

/-- The whole machine. -/
structure State where
  /-- The block's registers. -/
  blk : Block
  /-- The LINE agent. -/
  line : Line
  /-- The parameters of 00_scope R8 (log 3). -/
  params : Params
  /-- The level of the `rst` pin (70_reset R270; log 15). -/
  rst : Bool
  /-- What HOST's last read returned: the read data of the register port (44_host_interface R200; log 16). -/
  hostData : Word
  /-- The events still to come, in their order (20_memory R71; log 1). -/
  inputs : List Event
  /-- How many free events were drawn (log 1). -/
  evIdx : Nat
deriving DecidableEq, Repr

/-- Model faults (00_scope R12: no rule creates one). Each stops a state that no run from reset reaches (log 18). -/
inductive Fault where
  /-- A transfer's IDX lies beyond the bytes of the transfer. Raised by the TX template and by S_INFO_ACK. Safe: the
  machine stops where the spec gives no byte. -/
  | transferIndex
  /-- S_INFO_PAY would store at an index at or above PAYLOAD_CAP, which does not exist. Safe. -/
  | payloadIndex
deriving DecidableEq, Repr

/-- Why a step has no meaning. -/
inductive Refusal where
  /-- An instruction whose meaning is not written. Raised by no arm of exec. Safe. -/
  | notModelled (mnemonic : String)
  /-- A HOST access whose offset is not a multiple of 4 (20_memory R66: "A model refuses such an access by name"). Raised by
  MISALIGNED_B0 and MISALIGNED_B1. Safe. -/
  | misaligned
  /-- A HOST access that is not 32 bits wide (R66). Raised by the decoder's rejection. Safe. -/
  | accessWidth
  /-- A HOST access during reset, which is lost (70_reset R270: "the model refuses it"). Safe. -/
  | hostDuringReset
  /-- STATE holds a reserved code (30_encoding R100: "it refuses the step and gives it no meaning"). Raised by
  RESERVED_STATE. Safe. -/
  | reservedState
  /-- Bytes said to be sent that are no frame of the block (30_encoding R90: "The block sends no other frames"). Safe. -/
  | notSent
deriving DecidableEq, Repr

/-- The configuration of 40_line_transport R111's worked example, with `other` 0: LINE's configuration in State.reset
(DESIGN CHOICE, log 5) and CFG_SAVED's value there (DESIGN CHOICE, log 8). -/
def exampleCfg : LineCfg where
  baud := 9600
  dataBits := .seven
  parity := .even
  stopBits := .one
  hwFlow := true
  inFlowXlate := true
  ignoreModem := false
  rxEnable := true
  raw := false
  other := 0

/-- The block's registers after reset (10_state R54). PAYLOAD and CFG_SAVED are unspecified there: DESIGN CHOICE
(log 7, log 8). -/
def Block.reset : Block where
  state := codeIdle
  baud := 115200#32
  sessionBaud := 0#32
  pulses := 0#32
  idx := 0#32
  attempts := 0#32
  cancelFlag := false
  synced := false
  result := .none
  faultCause := .none
  faultInfo := 0#32
  restoreFail := false
  ackb := 0#16
  lenb := 0#8
  infoLen := 0#16
  lineHeld := false
  payload := []
  payCount := 0#16
  cfgSaved := exampleCfg
  cfgSavedValid := false
  timer := 0

/-- LINE before anything has happened: 95_test_vectors' "std start" (DESIGN CHOICE, log 5; the block does not reset LINE,
10_state R47). -/
def Line.std : Line where
  present := true
  cfg := exampleCfg
  rxq := []
  txlog := []
  txState := .ok
  txReady := true
  getOk := true
  setOk := true
  onWire := 0
  reqlog := []

/-- The machine right after reset (10_state R54, 70_reset R273). -/
def State.reset : State where
  blk := Block.reset
  line := Line.std
  params := Params.default
  rst := false
  hostData := 0#32
  inputs := []
  evIdx := 0

end Sys2Proof.Machine
end

