-- ==== Sys2Proof/Machine/Flags.lean ====
section
/-! DEFINITION. The flags and the registers that are functions of others: BUSY, DONE, `irq_done`, STATUS, EXIT, and the
codes of RESULT and FAULT_CAUSE (10_state R29, R49, R50; 44_host_interface R214, R215; 60_exceptions R231). -/

namespace Sys2Proof.Machine

/-- The 2-bit code of RESULT (10_state R29). -/
def SessionResult.code : SessionResult → BitVec 2
  | .none => 0#2
  | .success => 1#2
  | .cancelled => 2#2
  | .fault => 3#2

/-- The 4-bit code of FAULT_CAUSE (60_exceptions R231). -/
def Cause.code : Cause → BitVec 4
  | .none => 0#4
  | .usage => 1#4
  | .lineOpen => 2#4
  | .cfgGet => 3#4
  | .cfgSet => 4#4
  | .txIo => 5#4
  | .txClosed => 6#4
  | .rxIo => 7#4
  | .rxClosed => 8#4
  | .infoNak => 9#4
  | .alloc => 10#4
  | .cfgRestore => 11#4

/-- BUSY: STATE is neither S_IDLE nor S_DONE (10_state R50). -/
def Block.busy (b : Block) : Bool := b.state != codeIdle && b.state != codeDone

/-- DONE: STATE is S_DONE (10_state R50). -/
def Block.done (b : Block) : Bool := b.state == codeDone

/-- The `irq_done` output: 1 exactly while STATE is S_DONE (44_host_interface R215). -/
def State.irqDone (s : State) : Bool := s.blk.done

/-- STATUS, bit 31 first: reserved, FAULT_CAUSE, reserved, RESULT, reserved, RESTORE_FAIL, CANCEL_REQ, SYNCED, DONE, BUSY,
reserved, STATE (10_state R49). -/
def Block.status (b : Block) : Word :=
  0#4 ++ b.faultCause.code ++ 0#6 ++ b.result.code ++ 0#3 ++ BitVec.ofBool b.restoreFail ++ BitVec.ofBool b.cancelFlag ++
    BitVec.ofBool b.synced ++ BitVec.ofBool b.done ++ BitVec.ofBool b.busy ++ 0#3 ++ b.state

/-- FAULT_INFO from the raising state and the recorded data (10_state R31, 60_exceptions R241). -/
def faultInfoWord (fstate : StateCode) (data : BitVec 16) : Word := 0#11 ++ fstate ++ data

/-- EXIT, which HOST derives from the outcome at S_DONE: 0 on success, 1 on cancellation and fault; no value before
(44_host_interface R214). -/
def Block.exitCode (b : Block) : Option Nat :=
  if b.done then
    match b.result with
    | .none => none
    | .success => some 0
    | .cancelled => some 1
    | .fault => some 1
  else none

/-- The document's state Negotiating: the codes 0x04 to 0x0C (30_encoding R99). -/
def Block.negotiating (b : Block) : Bool := decide (codePulse.toNat ≤ b.state.toNat ∧ b.state.toNat ≤ codeBackoff.toNat)

end Sys2Proof.Machine
end

