-- ==== Sys2Proof/Machine/Operands.lean ====
section
/-! DEFINITION. The operands of the meanings: pulse counts, timer ticks, the RAW configuration, frame bytes by index, the
payload buffer and its window (30_encoding R87, R88; 60_exceptions R252; 40_line_transport R113; 20_memory R64). -/

namespace Sys2Proof.Machine

/-- SETTLE_MS (00_scope R8). -/
def settleMs : Nat := 20

/-- TRAILER_LEN (00_scope R8). -/
def trailerLen : Nat := 3

/-- PULSE_COUNT(B) = floor(B × 5 / 10000), on unbounded naturals (30_encoding R88). -/
def pulseCount (baud : Nat) : Nat := baud * 5 / 10000

/-- ms_to_ticks(ms) = ceil(ms × F_CLK / 1000) (60_exceptions R252). -/
def msToTicks (fClk ms : Nat) : Nat := (ms * fClk + 999) / 1000

/-- line_supports(cfg), the parameter of 00_scope R8 (log 4). -/
def lineSupports (p : Params) (c : LineCfg) : Bool :=
  match p.lineSupport with
  | .allBut refused => !refused.contains c
  | .only taken => taken.contains c
  | .rates bauds => bauds.contains c.baud
  | .free k => Config.lineSupports k c

/-- The parameters under which the invariant bounds TIMER. The spec asks for BACKOFF_MS above 2000 (00_scope R8, 70_reset
R289), PAYLOAD_CAP at most 65535 (R8), and a timer wide enough for BACKOFF_MS (R8, 60_exceptions R252), which holds
SETTLE_MS too. DESIGN CHOICE: PROBE_DELAY_MS, which no rule bounds, must fit as well, and F_CLK, of which R8 gives no
range, may be 0 (log 30). No meaning reads this. -/
def paramsAdmissible (p : Params) : Bool :=
  decide (2000 < p.backoffMs) && decide (p.payloadCap ≤ 65535) && decide (msToTicks p.fClk p.backoffMs < 2 ^ p.timerW) &&
    decide (msToTicks p.fClk p.probeDelayMs < 2 ^ p.timerW) && decide (msToTicks p.fClk settleMs < 2 ^ p.timerW)

/-- RAW(saved, B) (40_line_transport R113). -/
def rawCfg (saved : LineCfg) (baud : Nat) : LineCfg where
  baud := baud
  dataBits := .eight
  parity := .none
  stopBits := .one
  hwFlow := false
  inFlowXlate := false
  ignoreModem := true
  rxEnable := true
  raw := true
  other := saved.other

/-- Byte i of a train of n pulse bytes (42_sync_negotiator R152). -/
def pulseTrain (n i : Nat) : Option Byte := if i < n then some pulseByte else none

/-- Byte i of the Handshake Frame (42_sync_negotiator R154). -/
def handshakeAt (i : Nat) : Option Byte := handshakeFrame[i]?

/-- Byte i of the info Command Frame (43_command_framer R181). -/
def infoCmdAt (i : Nat) : Option Byte := infoCmdFrame[i]?

/-- The bytes of a received frame as entries of rxq (10_state R42). -/
def rxBytes (bs : List Byte) : List RxEntry := bs.map .byte

/-- The wire bytes of a sync response (30_encoding R85). -/
def syncBytes (t0 t1 t2 : Byte) : List Byte := [ackO, ackK, t0, t1, t2]

/-- The wire bytes of an info response (30_encoding R86, R87). -/
def infoBytes (len : BitVec 16) (payload : List Byte) : List Byte :=
  ackO :: ackK :: len.extractLsb' 0 8 :: len.extractLsb' 8 8 :: payload

/-- A byte of the payload buffer; an index nothing has written reads 0 (DESIGN CHOICE, log 7). -/
def Memory.read (m : Memory) (a : Nat) : Byte :=
  match m with
  | [] => 0#8
  | (x, v) :: rest => if a = x then v else Memory.read rest a

/-- Puts a byte before `m`, unless it is what an unlisted address reads as. -/
def Memory.cons (a : Nat) (b : Byte) (m : Memory) : Memory := if b = 0#8 then m else (a, b) :: m

/-- A write that keeps the canonical form. -/
def Memory.write (m : Memory) (a : Nat) (b : Byte) : Memory :=
  match m with
  | [] => Memory.cons a b []
  | (x, v) :: rest =>
    if a < x then Memory.cons a b ((x, v) :: rest)
    else if a = x then Memory.cons a b rest
    else (x, v) :: Memory.write rest a b

/-- Every listed address lies above `a`. -/
def Memory.above (a : Nat) (m : Memory) : Bool := m.all fun c => decide (a < c.1)

/-- The canonical form: addresses strictly rising, and no listed byte equal to 0. -/
def Memory.wf (m : Memory) : Bool :=
  match m with
  | [] => true
  | (x, v) :: rest => v != 0#8 && Memory.above x rest && Memory.wf rest

/-- Every listed address lies below `n`. -/
def Memory.below (n : Nat) (m : Memory) : Bool := m.all fun c => decide (c.1 < n)

/-- P(i) of 20_memory R64: byte i of the window. -/
def Block.windowByte (b : Block) (i : Nat) : Byte := if i < b.payCount.toNat then b.payload.read i else 0#8

/-- The window's word k: P(4k) in bits 7:0 (20_memory R64). -/
def Block.windowWord (b : Block) (k : Nat) : Word :=
  b.windowByte (4 * k + 3) ++ b.windowByte (4 * k + 2) ++ b.windowByte (4 * k + 1) ++ b.windowByte (4 * k)

/-- What a 32-bit read at an aligned word index returns (20_memory R61): CTRL reads 0, then the registers, then the
reserved range. -/
def Block.readRegister (b : Block) (idx : Nat) : Word :=
  match idx with
  | 0 => 0#32
  | 1 => b.baud
  | 2 => b.status
  | 3 => b.attempts
  | 4 => b.pulses
  | 5 => b.infoLen.setWidth 32
  | 6 => b.faultInfo
  | 7 => b.payCount.setWidth 32
  | _ => 0#32

end Sys2Proof.Machine
end

