-- ==== Sys2Proof/Machine/Ops.lean ====
section
/-! DEFINITION. The shared operations: LINE's primitives (41_byte_channel R130 to R132, 40_line_transport R115), fault entry
(60_exceptions R241), the timer (R250 to R252), the transfer templates (41_byte_channel R133, R134), BeginAttempt
(42_sync_negotiator R151), the HOST commands (44_host_interface R201 to R204), reset (70_reset R270) and LINE's own steps. -/

namespace Sys2Proof.Machine

/-- The outcome of a step of this machine. -/
abbrev Result := Host.Outcome State Fault Refusal

/-! ## Updates -/

/-- `state <- S_X` (00_scope R10). -/
def State.goto (s : State) (c : StateCode) : State := { s with blk := { s.blk with state := c } }

/-- `r[IDX] <- v`. -/
def State.setIdx (s : State) (v : Word) : State := { s with blk := { s.blk with idx := v } }

/-- `r[RESULT] <- v`. -/
def State.setResult (s : State) (v : SessionResult) : State := { s with blk := { s.blk with result := v } }

/-- Replaces LINE. -/
def State.setLine (s : State) (l : Line) : State := { s with line := l }

/-- Replaces the block's registers. -/
def State.setBlk (s : State) (b : Block) : State := { s with blk := b }

/-- Drives the read data of the register port. -/
def State.setHostData (s : State) (v : Word) : State := { s with hostData := v }

/-! ## LINE's byte primitives -/

/-- The answers of TxByte (41_byte_channel R130). -/
inductive TxAnswer where
  | accepted | stall | error | closed
deriving DecidableEq, Repr

/-- The answers of RxByte (41_byte_channel R131). -/
inductive RxAnswer where
  | byte (b : Byte)
  | stall | error | closed
deriving DecidableEq, Repr

/-- TxByte(b): ERROR or CLOSED when tx_state says so, otherwise ACCEPTED when LINE is ready, otherwise STALL (R130). -/
def Line.txByte (l : Line) (b : Byte) : TxAnswer × Line :=
  match l.txState with
  | .error => (.error, l)
  | .closed => (.closed, l)
  | .ok => if l.txReady then (.accepted, { l with txlog := l.txlog ++ [b] }) else (.stall, l)

/-- RxByte(): takes the head entry of rxq (R131). -/
def Line.rxByte (l : Line) : RxAnswer × Line :=
  match l.rxq with
  | [] => (.stall, l)
  | .byte b :: rest => (.byte b, { l with rxq := rest })
  | .error :: rest => (.error, { l with rxq := rest })
  | .closed :: rest => (.closed, { l with rxq := rest })

/-- The number of consecutive BYTE entries at the head of a queue (10_state R42). -/
def countBytes : List RxEntry → Nat
  | .byte _ :: rest => countBytes rest + 1
  | .error :: _ => 0
  | .closed :: _ => 0
  | [] => 0

/-- RxCount() (41_byte_channel R132). -/
def Line.rxCount (l : Line) : Nat := countBytes l.rxq

/-! ## LINE's control requests (40_line_transport R115) -/

/-- Records a control request (log 22). -/
def Line.record (l : Line) (r : LineReq) : Line := { l with reqlog := l.reqlog ++ [r] }

/-- LineOpen(): OK when a line is present (log 6). -/
def Line.requestOpen (l : Line) : Bool × Line := (l.present, l.record (.openLine l.present))

/-- LineCfgGet(): OK with LINE's configuration, or FAIL, as LINE draws (log 6). -/
def Line.requestCfgGet (l : Line) : Option LineCfg × Line :=
  if l.getOk then (some l.cfg, l.record (.cfgGet true)) else (none, l.record (.cfgGet false))

/-- LINE's answer to LineCfgSet(c): FAIL whenever line_supports(c) is false, otherwise as LINE draws. -/
def Line.cfgSetOk (p : Params) (l : Line) (c : LineCfg) : Bool := lineSupports p c && l.setOk

/-- LineCfgSet(c): on OK the configuration becomes c, on FAIL it is unchanged. -/
def Line.requestCfgSet (p : Params) (l : Line) (c : LineCfg) : Bool × Line :=
  if l.cfgSetOk p c then (true, { l with cfg := c }.record (.cfgSet c true)) else (false, l.record (.cfgSet c false))

/-- LineClose(): always succeeds, and leaves cfg and rxq as they are. -/
def Line.requestClose (l : Line) : Line := l.record .close

/-! ## Fault entry -/

/-- `raise Fault(cause, data)` (60_exceptions R241): this machine's one way of taking an exception. Nothing returns from it
(R245). -/
def State.raiseFault (s : State) (cause : Cause) (data : BitVec 16) : State :=
  let b : Block := { s.blk with
    result := .fault
    faultCause := cause
    faultInfo := faultInfoWord s.blk.state data }
  if b.cfgSavedValid then { s with blk := { b with state := codeRestore } }
  else if b.lineHeld then
    { s with blk := { b with lineHeld := false, state := codeDone }, line := s.line.requestClose }
  else { s with blk := { b with state := codeDone } }

/-! ## The timer -/

/-- TimerStart(ms) (60_exceptions R250). A count that does not fit in TIMER_W bits is loaded whole (DESIGN CHOICE, log 30). -/
def State.timerStart (s : State) (ms : Nat) : State :=
  { s with blk := { s.blk with timer := msToTicks s.params.fClk ms } }

/-- TimerExpired() (R251). -/
def Block.timerExpired (b : Block) : Bool := b.timer == 0

/-- The timer's part of a `clk` cycle (R252). -/
def State.timerTick (s : State) : State := { s with blk := { s.blk with timer := s.blk.timer - 1 } }

/-- The untimed model's expiry (R252). -/
def State.timerExpire (s : State) : State := { s with blk := { s.blk with timer := 0 } }

/-! ## The transfer templates -/

/-- The transmit template TX(F, n, done) (41_byte_channel R133); `hold` answers the state it was given (00_scope R11; log 9). -/
def txTransfer (n : Nat) (frame : Nat → Option Byte) (done : State → State) (s : State) : Result :=
  if s.blk.idx.toNat = n then .next (done s)
  else
    match frame s.blk.idx.toNat with
    | none => .fault .transferIndex
    | some b =>
      match s.line.txByte b with
      | (.accepted, l) => .next ((s.setLine l).setIdx (s.blk.idx + 1#32))
      | (.stall, _) => .next s
      | (.error, l) => .next ((s.setLine l).raiseFault .txIo (s.blk.idx.setWidth 16))
      | (.closed, l) => .next ((s.setLine l).raiseFault .txClosed (s.blk.idx.setWidth 16))

/-- The receive template RX(n, put, done) (41_byte_channel R134). -/
def rxTransfer (n : Nat) (put : Nat → Byte → Block → Except Fault Block) (done : State → State) (s : State) : Result :=
  if s.blk.idx.toNat = n then .next (done s)
  else
    match s.line.rxByte with
    | (.byte b, l) =>
      match put s.blk.idx.toNat b s.blk with
      | .ok blk => .next ((s.setBlk blk).setLine l |>.setIdx (s.blk.idx + 1#32))
      | .error f => .fault f
    | (.stall, _) => .next s
    | (.error, l) => .next ((s.setLine l).raiseFault .rxIo (s.blk.idx.setWidth 16))
    | (.closed, l) => .next ((s.setLine l).raiseFault .rxClosed (s.blk.idx.setWidth 16))

/-- `read_one` against one expected byte (41_byte_channel R135; 42_sync_negotiator R156, R157): a match performs `hit`, a
mismatch consumes the byte and fails the attempt, and `matched` bytes are recorded with a fault. -/
def readExpected (want : Byte) (matched : BitVec 16) (hit : State → State) (s : State) : Result :=
  match s.line.rxByte with
  | (.byte b, l) => if b = want then .next (hit (s.setLine l)) else .next ((s.setLine l).goto codeFailchk)
  | (.stall, _) => .next s
  | (.error, l) => .next ((s.setLine l).raiseFault .rxIo matched)
  | (.closed, l) => .next ((s.setLine l).raiseFault .rxClosed matched)

/-- Repeats the accepting step of the transmit template until the frame is out, LINE stalls, or a fault is raised:
`fuel` is at least the number of bytes left (30_encoding R101, outbound; log 11). -/
def sendFrame (frame : Nat → Option Byte) (n : Nat) : Nat → State → Result
  | 0, s => .next s
  | fuel + 1, s =>
    if s.blk.idx.toNat = n then .next s
    else
      match txTransfer n frame id s with
      | .next s' => if s'.blk.idx = s.blk.idx then .next s' else sendFrame frame n fuel s'
      | .fault f => .fault f
      | .refused r => .refused r

/-! ## Sequencer actions -/

/-- BeginAttempt() (42_sync_negotiator R151). -/
def State.beginAttempt (s : State) : State :=
  { s with blk := { s.blk with
      attempts := s.blk.attempts + 1#32
      pulses := BitVec.ofNat 32 (pulseCount s.blk.sessionBaud.toNat)
      idx := 0#32
      state := codePulse } }

/-- S_RESTORE's action: one restore, then the close (40_line_transport R114). CFG_SAVED after the restore may be any value
(93_implementation_defined section 2): DESIGN CHOICE, it keeps the saved record (log 8). -/
def State.restoreAndClose (s : State) : State :=
  match s.line.requestCfgSet s.params s.blk.cfgSaved with
  | (ok, l) =>
    let b : Block := { s.blk with cfgSavedValid := false, lineHeld := false, state := codeDone }
    let b : Block := if ok then b else { b with restoreFail := true }
    let b : Block :=
      if ok || b.result == .fault then b
      else { b with
        result := .fault
        faultCause := .cfgRestore
        faultInfo := faultInfoWord codeRestore 0#16 }
    { s with blk := b, line := l.requestClose }

/-! ## HOST commands -/

/-- START (44_host_interface R201). -/
def State.hostStart (s : State) : State :=
  if s.blk.busy then s
  else
    let s' : State := { s with blk := { s.blk with
      sessionBaud := s.blk.baud
      cancelFlag := false
      attempts := 0#32
      pulses := 0#32
      idx := 0#32
      synced := false
      result := .none
      faultCause := .none
      faultInfo := 0#32
      restoreFail := false
      ackb := 0#16
      lenb := 0#8
      infoLen := 0#16
      payCount := 0#16
      lineHeld := false
      cfgSavedValid := false } }
    if s'.blk.sessionBaud = 0#32 then s'.raiseFault .usage 0#16 else s'.goto codeOpen

/-- CANCEL, and `cancel_in` (44_host_interface R202, R203). -/
def State.hostCancel (s : State) : State :=
  if s.blk.busy then { s with blk := { s.blk with cancelFlag := true } } else s

/-! ## Reset and LINE's own steps -/

/-- A `clk` cycle with `rst` at this level: while it is 1 every block register takes its reset value, and LINE is not touched
(70_reset R270 to R272). -/
def State.resetPin (s : State) (level : Bool) : State :=
  if level then { s with blk := Block.reset, rst := true } else { s with rst := false }

/-- LINE appends entries to rxq (10_state R42, R45). -/
def Line.append (l : Line) (es : List RxEntry) : Line := { l with rxq := l.rxq ++ es }

/-- A step of LINE's own (10_state R43, R45, R46). It is given whether the block owns LINE, since only then is no other
agent's configuration possible (R47). -/
def Line.own (p : Params) (held : Bool) (l : Line) (e : LineEvent) : Line :=
  match e with
  | .rx entries => l.append entries
  | .overrun =>
    match p.rxOverrun with
    | .drop => l
    | .appendError => l.append [.error]
  | .lineError b =>
    match p.rxLineErrors with
    | .appendError => l.append [.error]
    | .appendByte => l.append [.byte b]
    | .drop => l
  | .setTxState t => { l with txState := t }
  | .setPresent q => { l with present := q }
  | .setTxReady r => { l with txReady := r }
  | .setGetOk ok => { l with getOk := ok }
  | .setSetOk ok => { l with setOk := ok }
  | .emit => if l.onWire < l.txlog.length then { l with onWire := l.onWire + 1 } else l
  | .reconfigure c => if held then l else { l with cfg := c }

end Sys2Proof.Machine
end

