-- ==== Sys2Proof/Machine/CommandFramer.lean ====
section
/-! DEFINITION. The Command Framer (43_command_framer R180 to R184). -/

namespace Sys2Proof.Machine

/-- ACKB with byte i of the pair replaced: bits 8i+7:8i (R182). A pair has no byte 2 (log 18). -/
def putAck (i : Nat) (b : Byte) (k : Block) : Except Fault Block :=
  match i with
  | 0 => .ok { k with ackb := k.ackb.extractLsb' 8 8 ++ b }
  | 1 => .ok { k with ackb := b ++ k.ackb.extractLsb' 0 8 }
  | _ => .error .transferIndex

/-- The length's low byte into LENB, then the whole length into INFO_LEN (R183). A length has no byte 2 (log 18). -/
def putLen (i : Nat) (b : Byte) (k : Block) : Except Fault Block :=
  match i with
  | 0 => .ok { k with lenb := b }
  | 1 => .ok { k with infoLen := len16 k.lenb b }
  | _ => .error .transferIndex

/-- Payload byte i into the buffer, with the PAY_COUNT that counts it (R184). There is no byte at or above the buffer's
capacity (10_state R37; log 18). -/
def putPay (cap i : Nat) (b : Byte) (k : Block) : Except Fault Block :=
  if i < cap then .ok { k with payload := k.payload.write i b, payCount := BitVec.ofNat 16 (i + 1) }
  else .error .payloadIndex

/-- What S_INFO_ACK does when both bytes are read (R182). -/
def State.ackDone (s : State) : State :=
  if ackValid (s.blk.ackb.extractLsb' 0 8) (s.blk.ackb.extractLsb' 8 8) then (s.setIdx 0#32).goto codeInfoLen
  else s.raiseFault .infoNak s.blk.ackb

/-- What S_INFO_LEN does when both bytes are read (R183). -/
def State.lenDone (s : State) : State :=
  if s.params.payloadCap < s.blk.infoLen.toNat then s.raiseFault .alloc s.blk.infoLen
  else if s.blk.infoLen = 0#16 then (s.setResult .success).goto codeRestore
  else (s.setIdx 0#32).goto codeInfoPay

/-- S_INFO_TX: send the info Command Frame (R181). -/
def execSInfoTx (s : State) : Result := txTransfer 4 infoCmdAt (fun t => (t.setIdx 0#32).goto codeInfoAck) s

/-- S_INFO_ACK: read the 2-byte acknowledgment, then check it (R182). -/
def execSInfoAck (s : State) : Result := rxTransfer 2 putAck State.ackDone s

/-- S_INFO_LEN: read the 2-byte length, then check it (R183). -/
def execSInfoLen (s : State) : Result := rxTransfer 2 putLen State.lenDone s

/-- S_INFO_PAY: read exactly L payload bytes into the buffer (R184). -/
def execSInfoPay (s : State) : Result :=
  rxTransfer s.blk.infoLen.toNat (putPay s.params.payloadCap) (fun t => (t.setResult .success).goto codeRestore) s

end Sys2Proof.Machine
end

