-- ==== Sys2Proof/Machine/HostRead.lean ====
section
/-! DEFINITION. HOST reads: each drives the read data and changes nothing else (44_host_interface R206 to R213, R216;
20_memory R62, R64, R67). The DATA field of a read's word is not used (log 26). -/

namespace Sys2Proof.Machine

/-- A read of the register at a word index. -/
def State.readInto (s : State) (idx : Nat) : State := s.setHostData (s.blk.readRegister idx)

/-- CTRL_RD: returns 0x00000000 (R216). -/
def execCtrlRd (_data : Word) (s : State) : Result := .next (s.readInto 0)

/-- BAUD_RD (R206). -/
def execBaudRd (_data : Word) (s : State) : Result := .next (s.readInto 1)

/-- STATUS_RD (R207). -/
def execStatusRd (_data : Word) (s : State) : Result := .next (s.readInto 2)

/-- ATTEMPTS_RD (R208). -/
def execAttemptsRd (_data : Word) (s : State) : Result := .next (s.readInto 3)

/-- PULSES_RD (R209). -/
def execPulsesRd (_data : Word) (s : State) : Result := .next (s.readInto 4)

/-- INFO_LEN_RD (R210). -/
def execInfoLenRd (_data : Word) (s : State) : Result := .next (s.readInto 5)

/-- FAULT_INFO_RD (R211). -/
def execFaultInfoRd (_data : Word) (s : State) : Result := .next (s.readInto 6)

/-- PAY_COUNT_RD (R212). -/
def execPayCountRd (_data : Word) (s : State) : Result := .next (s.readInto 7)

/-- PAY_RD: the window's word k (R213, 20_memory R64). -/
def execPayRd (k : BitVec 14) (_data : Word) (s : State) : Result := .next (s.setHostData (s.blk.windowWord k.toNat))

/-- RSVD_RD: returns 0x00000000 (20_memory R62). -/
def execRsvdRd (_idx : BitVec 14) (_data : Word) (s : State) : Result := .next (s.setHostData 0#32)

end Sys2Proof.Machine
end

