-- ==== Sys2Proof/Machine/HostWrite.lean ====
section
/-! DEFINITION. HOST writes and the `cancel_in` pin (44_host_interface R201 to R205, R216; 20_memory R62, R66). -/

namespace Sys2Proof.Machine

/-- START (R201); with DATA bit 1 also set, START and then CANCEL in one event (R204). -/
def execStart (data : Word) (s : State) : Result :=
  .next (if data.getLsbD 1 then s.hostStart.hostCancel else s.hostStart)

/-- CANCEL (R202). -/
def execCancel (_data : Word) (s : State) : Result := .next s.hostCancel

/-- CTRL_NOP: a CTRL write with v[1:0] = 0 does nothing (R216). -/
def execCtrlNop (_data : Word) (s : State) : Result := .next s

/-- BAUD_WR: all 32 bits, at any time (R205). -/
def execBaudWr (data : Word) (s : State) : Result := .next (s.setBlk { s.blk with baud := data })

/-- STATUS_WR: ignored (R216). -/
def execStatusWr (_data : Word) (s : State) : Result := .next s

/-- ATTEMPTS_WR: ignored (R216). -/
def execAttemptsWr (_data : Word) (s : State) : Result := .next s

/-- PULSES_WR: ignored (R216). -/
def execPulsesWr (_data : Word) (s : State) : Result := .next s

/-- INFO_LEN_WR: ignored (R216). -/
def execInfoLenWr (_data : Word) (s : State) : Result := .next s

/-- FAULT_INFO_WR: ignored (R216). -/
def execFaultInfoWr (_data : Word) (s : State) : Result := .next s

/-- PAY_COUNT_WR: ignored (R216). -/
def execPayCountWr (_data : Word) (s : State) : Result := .next s

/-- PAY_WR: the window is read-only, the write is ignored (R216, 20_memory R64). -/
def execPayWr (_k : BitVec 14) (_data : Word) (s : State) : Result := .next s

/-- RSVD_WR: no effect (20_memory R62). -/
def execRsvdWr (_idx : BitVec 14) (_data : Word) (s : State) : Result := .next s

/-- CANCEL_IN: the same effect as CANCEL (R203). -/
def execCancelIn (s : State) : Result := .next s.hostCancel

/-- MISALIGNED_B0: refused by name (20_memory R66). -/
def execMisalignedB0 (_we : BitVec 1) (_offHi : BitVec 16) (_data : Word) (_s : State) : Result := .refused .misaligned

/-- MISALIGNED_B1: refused by name (20_memory R66). -/
def execMisalignedB1 (_we : BitVec 1) (_offHi : BitVec 15) (_data : Word) (_s : State) : Result := .refused .misaligned

end Sys2Proof.Machine
end

