-- ==== Sys2Proof/Machine/LineTransport.lean ====
section
/-! DEFINITION. Line Transport control (40_line_transport R110 to R114), the two states that wait for START (44_host_interface
R201), and the reserved state codes (30_encoding R100). -/

namespace Sys2Proof.Machine

/-- S_IDLE: SEQ has no action; only START leaves (R201, 70_reset R273; log 24). -/
def execSIdle (s : State) : Result := .next s

/-- S_DONE: the session has ended; only START leaves (R201, 60_exceptions R245; log 24). -/
def execSDone (s : State) : Result := .next s

/-- S_OPEN: open the line (R110). -/
def execSOpen (s : State) : Result :=
  match s.line.requestOpen with
  | (true, l) => .next ((s.setLine l).setBlk { s.blk with lineHeld := true, state := codeGetcfg })
  | (false, l) => .next ((s.setLine l).raiseFault .lineOpen 0#16)

/-- S_GETCFG: read and save the line's configuration (R111). -/
def execSGetcfg (s : State) : Result :=
  match s.line.requestCfgGet with
  | (some c, l) =>
    .next ((s.setLine l).setBlk { s.blk with cfgSaved := c, cfgSavedValid := true, state := codeSetcfg })
  | (none, l) => .next ((s.setLine l).raiseFault .cfgGet 0#16)

/-- S_SETCFG: install the raw configuration, then BeginAttempt (R112). -/
def execSSetcfg (s : State) : Result :=
  match s.line.requestCfgSet s.params (rawCfg s.blk.cfgSaved s.blk.sessionBaud.toNat) with
  | (true, l) => .next (s.setLine l).beginAttempt
  | (false, l) => .next ((s.setLine l).raiseFault .cfgSet 0#16)

/-- S_RESTORE: restore the saved configuration and close the line (R114). -/
def execSRestore (s : State) : Result := .next s.restoreAndClose

/-- RESERVED_STATE, code 0x13: refused (30_encoding R100). -/
def execReservedState13 (_s : State) : Result := .refused .reservedState

/-- RESERVED_STATE, codes 0x14 to 0x17: refused (30_encoding R100). -/
def execReservedState14 (_lo : BitVec 2) (_s : State) : Result := .refused .reservedState

/-- RESERVED_STATE, codes 0x18 to 0x1F: refused (30_encoding R100). -/
def execReservedState18 (_lo : BitVec 3) (_s : State) : Result := .refused .reservedState

end Sys2Proof.Machine
end

