-- ==== Sys2Proof/Machine/SyncNegotiator.lean ====
section
/-! DEFINITION. The Sync Negotiator (42_sync_negotiator R150 to R160). -/

namespace Sys2Proof.Machine

/-- S_PULSE: emit the autobaud pulse train, then start the settle timer (R152). -/
def execSPulse (s : State) : Result :=
  txTransfer s.blk.pulses.toNat (pulseTrain s.blk.pulses.toNat) (fun t => (t.timerStart settleMs).goto codeSettle) s

/-- S_SETTLE: wait for the peer's autobaud detector (R153). -/
def execSSettle (s : State) : Result :=
  if s.blk.timerExpired then .next ((s.setIdx 0#32).goto codeHshake) else .next s

/-- S_HSHAKE: transmit the Handshake Frame, then start the probe delay (R154). -/
def execSHshake (s : State) : Result :=
  txTransfer 12 handshakeAt (fun t => (t.timerStart t.params.probeDelayMs).goto codeProbe) s

/-- S_PROBE: has the peer answered? (R155) -/
def execSProbe (s : State) : Result :=
  if s.blk.timerExpired then .next (s.goto (if s.line.rxCount = 0 then codeFailchk else codeAckO)) else .next s

/-- S_ACK_O: read one byte and require 'O' (R156). -/
def execSAckO (s : State) : Result := readExpected ackO 0#16 (fun t => t.goto codeAckK) s

/-- S_ACK_K: read the next byte and require 'K' (R157). -/
def execSAckK (s : State) : Result := readExpected ackK 1#16 (fun t => (t.setIdx 0#32).goto codeDrain) s

/-- S_DRAIN: discard the 3 trailing bytes and declare success (R158). -/
def execSDrain (s : State) : Result :=
  rxTransfer trailerLen (fun _ _ b => .ok b)
    (fun t => t.setBlk { t.blk with synced := true, idx := 0#32, state := codeInfoTx }) s

/-- S_FAILCHK: after a failed attempt, check the Cancellation Flag (R159). -/
def execSFailchk (s : State) : Result :=
  if s.blk.cancelFlag then .next ((s.setResult .cancelled).goto codeRestore)
  else .next ((s.timerStart s.params.backoffMs).goto codeBackoff)

/-- S_BACKOFF: wait between attempts (R160). -/
def execSBackoff (s : State) : Result := if s.blk.timerExpired then .next s.beginAttempt else .next s

end Sys2Proof.Machine
end

