-- ==== Sys2Proof/Machine/WireFrames.lean ====
section
/-! DEFINITION. The wire frames (30_encoding R101). A frame the block sends is its encoder at work: in the state that sends
that frame, the frame's bytes that are not out yet go to LINE, one by one, until LINE stalls, a fault is raised, or the
frame is out; in any other state the block does not send it and holds (log 11). A frame the peer sends is queued by LINE,
and the sequencer's states read it (log 10). -/

namespace Sys2Proof.Machine

/-- PULSE: one byte 0x55 of the train S_PULSE sends (30_encoding R82, 42_sync_negotiator R152). -/
def execPulse (s : State) : Result :=
  if s.blk.state = codePulse then sendFrame (pulseTrain s.blk.pulses.toNat) s.blk.pulses.toNat 1 s else .next s

/-- HANDSHAKE: the Handshake Frame S_HSHAKE sends (30_encoding R83, 42_sync_negotiator R154). -/
def execHandshake (s : State) : Result :=
  if s.blk.state = codeHshake then sendFrame handshakeAt 12 12 s else .next s

/-- INFO_CMD: the info Command Frame S_INFO_TX sends (30_encoding R84, 43_command_framer R181). -/
def execInfoCmd (s : State) : Result :=
  if s.blk.state = codeInfoTx then sendFrame infoCmdAt 4 4 s else .next s

/-- SYNC_ACK: the peer's sync response arrives in rxq (30_encoding R85; read by 42_sync_negotiator R155 to R158). -/
def execSyncAck (t0 t1 t2 : Byte) (s : State) : Result :=
  .next (s.setLine (s.line.append (rxBytes (syncBytes t0 t1 t2))))

/-- INFO_RESP: the peer's info response arrives in rxq (30_encoding R86; read by 43_command_framer R182 to R184). -/
def execInfoResp (len : BitVec 16) (payload : List Byte) (s : State) : Result :=
  .next (s.setLine (s.line.append (rxBytes (infoBytes len payload))))

end Sys2Proof.Machine
end

