-- ==== Sys2Proof/Machine/Dispatch.lean ====
section
/-! DEFINITION. One arm per row of spec/opcode_table.json. -/

namespace Sys2Proof.Machine

/-- The meaning of an instruction. -/
def exec (i : Instr) (s : State) : Host.Outcome State Fault Refusal :=
  match i with
  | .start data => Sys2Proof.Machine.execStart data s
  | .cancel data => Sys2Proof.Machine.execCancel data s
  | .ctrlNop data => Sys2Proof.Machine.execCtrlNop data s
  | .baudWr data => Sys2Proof.Machine.execBaudWr data s
  | .statusWr data => Sys2Proof.Machine.execStatusWr data s
  | .attemptsWr data => Sys2Proof.Machine.execAttemptsWr data s
  | .pulsesWr data => Sys2Proof.Machine.execPulsesWr data s
  | .infoLenWr data => Sys2Proof.Machine.execInfoLenWr data s
  | .faultInfoWr data => Sys2Proof.Machine.execFaultInfoWr data s
  | .payCountWr data => Sys2Proof.Machine.execPayCountWr data s
  | .payWr k data => Sys2Proof.Machine.execPayWr k data s
  | .ctrlRd data => Sys2Proof.Machine.execCtrlRd data s
  | .baudRd data => Sys2Proof.Machine.execBaudRd data s
  | .statusRd data => Sys2Proof.Machine.execStatusRd data s
  | .attemptsRd data => Sys2Proof.Machine.execAttemptsRd data s
  | .pulsesRd data => Sys2Proof.Machine.execPulsesRd data s
  | .infoLenRd data => Sys2Proof.Machine.execInfoLenRd data s
  | .faultInfoRd data => Sys2Proof.Machine.execFaultInfoRd data s
  | .payCountRd data => Sys2Proof.Machine.execPayCountRd data s
  | .payRd k data => Sys2Proof.Machine.execPayRd k data s
  | .rsvdWr idx data => Sys2Proof.Machine.execRsvdWr idx data s
  | .rsvdRd idx data => Sys2Proof.Machine.execRsvdRd idx data s
  | .misalignedB0 we offHi data => Sys2Proof.Machine.execMisalignedB0 we offHi data s
  | .misalignedB1 we offHi data => Sys2Proof.Machine.execMisalignedB1 we offHi data s
  | .cancelIn => Sys2Proof.Machine.execCancelIn s
  | .pulse => Sys2Proof.Machine.execPulse s
  | .handshake => Sys2Proof.Machine.execHandshake s
  | .infoCmd => Sys2Proof.Machine.execInfoCmd s
  | .syncAck t0 t1 t2 => Sys2Proof.Machine.execSyncAck t0 t1 t2 s
  | .infoResp len payload => Sys2Proof.Machine.execInfoResp len payload s
  | .sIdle => Sys2Proof.Machine.execSIdle s
  | .sOpen => Sys2Proof.Machine.execSOpen s
  | .sGetcfg => Sys2Proof.Machine.execSGetcfg s
  | .sSetcfg => Sys2Proof.Machine.execSSetcfg s
  | .sPulse => Sys2Proof.Machine.execSPulse s
  | .sSettle => Sys2Proof.Machine.execSSettle s
  | .sHshake => Sys2Proof.Machine.execSHshake s
  | .sProbe => Sys2Proof.Machine.execSProbe s
  | .sAckO => Sys2Proof.Machine.execSAckO s
  | .sAckK => Sys2Proof.Machine.execSAckK s
  | .sDrain => Sys2Proof.Machine.execSDrain s
  | .sFailchk => Sys2Proof.Machine.execSFailchk s
  | .sBackoff => Sys2Proof.Machine.execSBackoff s
  | .sInfoTx => Sys2Proof.Machine.execSInfoTx s
  | .sInfoAck => Sys2Proof.Machine.execSInfoAck s
  | .sInfoLen => Sys2Proof.Machine.execSInfoLen s
  | .sInfoPay => Sys2Proof.Machine.execSInfoPay s
  | .sRestore => Sys2Proof.Machine.execSRestore s
  | .sDone => Sys2Proof.Machine.execSDone s
  | .reservedState13 => Sys2Proof.Machine.execReservedState13 s
  | .reservedState14 lo => Sys2Proof.Machine.execReservedState14 lo s
  | .reservedState18 lo => Sys2Proof.Machine.execReservedState18 lo s

end Sys2Proof.Machine
end

