-- ==== Sys2Proof/Machine/Events.lean ====
section
/-! DEFINITION. What one event does (20_memory R71): fetch, decode and run an instruction, or a step of LINE, the timer or
the reset pin; and which event is next. -/

namespace Sys2Proof.Machine

/-- The event that happens next: the first of those State holds, else a free one (log 1). -/
def State.nextEvent (s : State) : Event :=
  match s.inputs with
  | e :: _ => e
  | [] => Config.freeEvent s.evIdx

/-- The state with that event taken off the schedule. -/
def State.popEvent (s : State) : State :=
  match s.inputs with
  | _ :: rest => { s with inputs := rest }
  | [] => { s with evIdx := s.evIdx + 1 }

/-- What bits that are no instruction do: a low `cancel_in` requests nothing (44_host_interface R203), received bytes that
form no valid frame are received all the same (30_encoding R91; log 12), and the rest is refused by name. -/
def State.onReject (s : State) (x : Encoded) (r : Reject) : Result :=
  match r with
  | .accessWidth => .refused .accessWidth
  | .notSent => .refused .notSent
  | .pinLow => .next s
  | .notSyncResponse =>
    match x with
    | .syncIn bs => .next (s.setLine (s.line.append (rxBytes bs)))
    | _ => .next s
  | .notInfoResponse =>
    match x with
    | .infoIn bs => .next (s.setLine (s.line.append (rxBytes bs)))
    | _ => .next s

/-- Decode and execute. -/
def State.runEncoded (s : State) (x : Encoded) : Result :=
  match decode x with
  | .ok i => exec i s
  | .error r => s.onReject x r

/-- Whether a `rst` of 1 keeps the event from the block (70_reset R270): LINE, and the pin itself, go on. -/
def blockedByReset : Event → Bool
  | .seq => true
  | .clk => true
  | .host _ _ => true
  | .pin _ => true
  | .wireOut _ => true
  | .tick => true
  | .expire => true
  | .syncIn _ => false
  | .infoIn _ => false
  | .line _ => false
  | .rst _ => false

/-- What a blocked event does during reset: a HOST access is lost and refused, nothing else happens (70_reset R270). -/
def State.duringReset (s : State) (e : Event) : Result :=
  match e with
  | .host _ _ => .refused .hostDuringReset
  | _ => .next s

/-- One event; a SEQ step fetches its instruction from STATE (10_state R21). `clk` is a whole cycle of the timed model: the
timer's part, then the SEQ step (60_exceptions R252, 70_reset R291; log 14). -/
def State.perform (s : State) (e : Event) : Result :=
  if s.rst && blockedByReset e then s.duringReset e
  else
    match e with
    | .seq => s.runEncoded (.seq s.blk.state)
    | .clk => s.timerTick.runEncoded (.seq s.blk.state)
    | .host width w => s.runEncoded (.host width w)
    | .pin level => s.runEncoded (.pin level)
    | .wireOut bs => s.runEncoded (.wireOut bs)
    | .syncIn bs => s.runEncoded (.syncIn bs)
    | .infoIn bs => s.runEncoded (.infoIn bs)
    | .line l => .next (s.setLine (s.line.own s.params s.blk.lineHeld l))
    | .tick => .next s.timerTick
    | .expire => .next s.timerExpire
    | .rst level => .next (s.resetPin level)

/-- The schedule and STATE that make the next event fetch exactly this encoded form. -/
def State.place (s : State) (x : Encoded) : State :=
  match x with
  | .seq code => { s with rst := false, blk := { s.blk with state := code }, inputs := .seq :: s.inputs }
  | .host width w => { s with rst := false, inputs := .host width w :: s.inputs }
  | .pin level => { s with rst := false, inputs := .pin level :: s.inputs }
  | .wireOut bs => { s with rst := false, inputs := .wireOut bs :: s.inputs }
  | .syncIn bs => { s with rst := false, inputs := .syncIn bs :: s.inputs }
  | .infoIn bs => { s with rst := false, inputs := .infoIn bs :: s.inputs }

end Sys2Proof.Machine
end

