-- ==== Sys2Proof/Safety.lean ====
section
/-! DEFINITION. What a safe run is, in the terms the statements use: the invariants of a session, the answers of a step
that a run from reset can meet, and the fair runs of the untimed model. -/

namespace Sys2Proof.Machine

/-- The registers that a session's progress fixes (10_state R27 to R38; 40_line_transport R114, R116): STATE holds a defined
code; LINE_HELD and CFG_SAVED_VALID follow STATE; SYNCED separates the negotiator from the framer; the outcome stands from
S_RESTORE on; a cause stands exactly with a fault. -/
def sessionInv (b : Block) : Prop :=
  b.state.toNat ≤ 18 ∧
  (b.lineHeld = true ↔ 2 ≤ b.state.toNat ∧ b.state.toNat ≤ 17) ∧
  (b.cfgSavedValid = true ↔ 3 ≤ b.state.toNat ∧ b.state.toNat ≤ 17) ∧
  (b.state.toNat ≤ 12 → b.synced = false) ∧
  (13 ≤ b.state.toNat → b.state.toNat ≤ 16 → b.synced = true) ∧
  (b.result = .none ↔ b.state.toNat ≤ 16) ∧
  (b.faultCause = .none ↔ b.result ≠ .fault) ∧
  (b.result = .success → b.synced = true) ∧
  (b.result = .cancelled → b.synced = false) ∧
  (b.restoreFail = true → b.state = codeDone ∧ b.result = .fault)

/-- The transfer in progress: IDX never exceeds its length (10_state R25), the pulse count is that of the session's rate
(42_sync_negotiator R151), and INFO_LEN and PAY_COUNT stay 0 until their bytes arrive (43_command_framer R183, R184). -/
def transferInv (p : Params) (b : Block) : Prop :=
  (1 ≤ b.state.toNat → b.state.toNat ≤ 16 → b.sessionBaud ≠ 0#32) ∧
  (4 ≤ b.state.toNat → b.state.toNat ≤ 16 → b.pulses.toNat = pulseCount b.sessionBaud.toNat) ∧
  (b.state = codePulse → b.idx.toNat ≤ b.pulses.toNat) ∧
  (b.state = codeHshake → b.idx.toNat ≤ 12) ∧
  (b.state = codeDrain → b.idx.toNat ≤ 3) ∧
  (b.state = codeInfoTx → b.idx.toNat ≤ 4) ∧
  (b.state = codeInfoAck → b.idx.toNat ≤ 2) ∧
  (b.state = codeInfoLen → b.idx.toNat ≤ 2) ∧
  (b.state.toNat ≤ 15 → b.payCount = 0#16) ∧
  (b.state.toNat ≤ 14 → b.infoLen = 0#16) ∧
  (b.state = codeInfoLen → b.idx.toNat ≤ 1 → b.infoLen = 0#16) ∧
  (b.state = codeInfoPay →
    b.infoLen ≠ 0#16 ∧ b.infoLen.toNat ≤ p.payloadCap ∧ b.idx.toNat ≤ b.infoLen.toNat ∧ b.payCount.toNat = b.idx.toNat) ∧
  (b.result = .success → b.payCount = b.infoLen)

/-- The payload buffer: its canonical form (log 7), within its capacity (10_state R37). -/
def payloadInv (p : Params) (b : Block) : Prop :=
  b.payload.wf = true ∧ b.payload.below p.payloadCap = true

/-- What the block and LINE owe each other: S_ACK_O finds a byte at the head of rxq (42_sync_negotiator R156), and no more
bytes are on the wire than were accepted (10_state R43; log 21). -/
def lineInv (b : Block) (l : Line) : Prop :=
  (b.state = codeAckO → 0 < l.rxCount) ∧ l.onWire ≤ l.txlog.length

/-- TIMER fits its TIMER_W bits wherever the parameters are admissible (10_state R39, 60_exceptions R252; log 14, log 30). -/
def timerInv (p : Params) (b : Block) : Prop := paramsAdmissible p = true → b.timer < 2 ^ p.timerW

/-- While `rst` is held the block is in its reset state (70_reset R270), PAYLOAD and CFG_SAVED, which R271 leaves
unspecified, at the model's values (log 7, log 8). -/
def resetInv (s : State) : Prop := s.rst = true → s.blk = Block.reset

/-- The invariant of the machine. -/
def machineInv (s : State) : Prop :=
  sessionInv s.blk ∧ transferInv s.params s.blk ∧ payloadInv s.params s.blk ∧ lineInv s.blk s.line ∧
    timerInv s.params s.blk ∧ resetInv s

/-- A result that is a next state. -/
def Completes (r : Result) : Prop := ∃ s, r = .next s

/-- The refusals a run can meet: a HOST access of the wrong form (00_scope R12, 20_memory R66) or during reset (70_reset
R270), and a trace that misreports the wire (30_encoding R90; the model's reading, log 28). -/
def hostRefusal (r : Refusal) : Prop :=
  r = .misaligned ∨ r = .accessWidth ∨ r = .hostDuringReset ∨ r = .notSent

/-- A step that no model fault stops, and that refuses only what HOST or a trace provokes. -/
def SafeResult : Result → Prop
  | .next _ => True
  | .fault _ => False
  | .refused r => hostRefusal r

/-- An infinite run: its states, and the event that takes each to the next (00_scope R6, 20_memory R71). The schedule stands
beside the states, since the one State holds is finite (log 1). -/
def isRun (r : Nat → State) (e : Nat → Event) : Prop := ∀ n, (r n).perform (e n) = .next (r (n + 1))

/-- The timer's expiry is enabled: TIMER runs, which is TIMER not 0 (log 14, log 30), and no reset
holds it (60_exceptions R252, 70_reset R270). -/
def expiryEnabled (s : State) : Prop := s.rst = false ∧ s.blk.timerExpired = false

/-- Weak fairness of the timer's expiry (00_scope R14): it is not enabled for ever from some point on without being taken. -/
def weaklyFair (r : Nat → State) (e : Nat → Event) : Prop :=
  ∀ n, (∀ m, n ≤ m → expiryEnabled (r m)) → ∃ m, n ≤ m ∧ e m = .expire

/-- A run of the untimed model (00_scope R14, 60_exceptions R252): no clock counts the timer down, and its expiry comes under
weak fairness (log 14). -/
def untimedRun (r : Nat → State) (e : Nat → Event) : Prop :=
  isRun r e ∧ (∀ n, e n ≠ .tick ∧ e n ≠ .clk) ∧ weaklyFair r e

/-- k SEQ steps in a row with nothing between them, stopping where one does not answer a next state. -/
def seqRun : Nat → State → Result
  | 0, s => .next s
  | k + 1, s =>
    match s.perform .seq with
    | .next s' => seqRun k s'
    | .fault f => .fault f
    | .refused r => .refused r

end Sys2Proof.Machine
end

