-- ==== Sys2Proof/Certificates/Slice0/Obligations.lean ====
section
/-! DEFINITION. The statements for the provers. Each docstring names the rule of spec/ it formalises. Record updates
write out a whole next state: a field that is not named keeps its value. -/

open Sys2Proof Sys2Proof.Machine

/-! ## Encodings -/

/-- Decode and encode agree on every well-formed instruction, with every operand at every value its row admits
(30_encoding R81 to R86, R94, R98). -/
def Obligations.DecodeOfEncode : Prop :=
  ∀ i : Instr, i.wellFormed = true → decode (encode i) = .ok i

/-- What the decoder accepts is well formed, and it is the encoding of what was decoded: no bit of a word, a frame or a
code is dropped (30_encoding R81 to R86, R94, R98). -/
def Obligations.EncodeOfDecode : Prop :=
  ∀ (x : Encoded) (i : Instr), decode x = .ok i → i.wellFormed = true ∧ encode i = x

/-- R94: an access selects the first row, in file order, whose mask and match it meets, but that a misaligned access
selects a MISALIGNED row whatever its position. -/
def Obligations.DecodeSelectsFirstRow : Prop :=
  ∀ w : TxnWord, (decodeHost w).hostRow? = some (hostRowNumber w)

/-- Words written out from the spec: those of programs P1, P3 and P2 (95_test_vectors L3), a state code of R98, the frames
of R82 to R86. -/
def Obligations.DecodesSpecWords : Prop :=
  decode (.host 32 0x2000000000001#50) = .ok (.start 1#32) ∧
  decode (.host 32 0x2000000000002#50) = .ok (.cancel 2#32) ∧
  decode (.host 32 0x2000400002580#50) = .ok (.baudWr 9600#32) ∧
  decode (.host 32 0x0000800000000#50) = .ok (.statusRd 0#32) ∧
  decode (.host 32 0x1000400000000#50) = .ok (.payRd 1#14 0#32) ∧
  decode (.pin 1#1) = .ok .cancelIn ∧
  decode (.wireOut [0x50#8, 0x00#8, 0x08#8, 0x00#8, 0x38#8, 0xF0#8, 0x00#8, 0x20#8, 0x00#8, 0x00#8, 0x00#8, 0x18#8]) =
    .ok .handshake ∧
  decode (.syncIn [0x4F#8, 0x4B#8, 1#8, 2#8, 3#8]) = .ok (.syncAck 1#8 2#8 3#8) ∧
  decode (.infoIn [0x4F#8, 0x4B#8, 0x02#8, 0x00#8, 0xDE#8, 0xAD#8]) = .ok (.infoResp 2#16 [0xDE#8, 0xAD#8]) ∧
  decode (.seq 0x0B#5) = .ok .sFailchk

/-- R87: the 16-bit length of two wire bytes is the first plus 256 times the second, unsigned (01 80 is 32769), and an
outbound LEN is sent low byte first (the handshake's LEN is 8, the info command's 0). -/
def Obligations.LengthIsLittleEndian : Prop :=
  (∀ b0 b1 : Byte, (len16 b0 b1).toNat = b0.toNat + 256 * b1.toNat ∧ len16 b0 b1 = b1 ++ b0) ∧
  (len16 0x01#8 0x80#8).toNat = 32769 ∧
  handshakeFrame[2]? = some ((8#16).extractLsb' 0 8) ∧ handshakeFrame[3]? = some ((8#16).extractLsb' 8 8) ∧
  infoCmdFrame[2]? = some ((0#16).extractLsb' 0 8) ∧ infoCmdFrame[3]? = some ((0#16).extractLsb' 8 8)

/-- R88: the pulse count is floor(B × 5 / 10000) on unbounded naturals, which is floor(B / 2000), and fits in 22 bits for
every 32-bit B; the worked values. -/
def Obligations.PulseCountIsExact : Prop :=
  (∀ b : Nat, pulseCount b = b * 5 / 10000 ∧ pulseCount b = b / 2000) ∧
  (∀ b : Word, pulseCount b.toNat < 2 ^ 22) ∧
  pulseCount 0xFFFFFFFF = 2147483 ∧ pulseCount 115200 = 57 ∧ pulseCount 9600 = 4 ∧ pulseCount 1 = 0

/-- R89: an acknowledgment pair is valid exactly when it is 4F 4B. -/
def Obligations.AckPairValidity : Prop :=
  (∀ a0 a1 : Byte, ackValid a0 a1 = true ↔ a0 = 0x4F#8 ∧ a1 = 0x4B#8) ∧
  ackValid 0x4B#8 0x4F#8 = false ∧ ackValid 0x6F#8 0x6B#8 = false ∧ ackValid 0x4F#8 0x00#8 = false

/-! ## A step -/

/-- A step runs the decoded instruction: at the head of the schedule, bits that decode to i make the step exec of i on the
state with that event taken off; a SEQ step fetches from STATE, and a `clk` cycle moves the timer first (10_state R21,
20_memory R71; log 1, log 14). -/
def Obligations.StepRunsDecoded : Prop :=
  ∀ (s : State) (rest : List Event) (i : Instr), s.rst = false →
    (∀ width w, s.inputs = .host width w :: rest → decode (.host width w) = .ok i →
      step s = exec i { s with inputs := rest }) ∧
    (∀ level, s.inputs = .pin level :: rest → decode (.pin level) = .ok i → step s = exec i { s with inputs := rest }) ∧
    (∀ bs, s.inputs = .wireOut bs :: rest → decode (.wireOut bs) = .ok i → step s = exec i { s with inputs := rest }) ∧
    (∀ bs, s.inputs = .syncIn bs :: rest → decode (.syncIn bs) = .ok i → step s = exec i { s with inputs := rest }) ∧
    (∀ bs, s.inputs = .infoIn bs :: rest → decode (.infoIn bs) = .ok i → step s = exec i { s with inputs := rest }) ∧
    (s.inputs = .seq :: rest → decode (.seq s.blk.state) = .ok i → step s = exec i { s with inputs := rest }) ∧
    (s.inputs = .clk :: rest → decode (.seq s.blk.state) = .ok i →
      step s = exec i { s with inputs := rest, blk := { s.blk with timer := s.blk.timer - 1 } })

/-- R66: an access that is not 32 bits wide, or whose offset is not a multiple of 4, is refused by name: no state, no
value. -/
def Obligations.BadAccessRefused : Prop :=
  ∀ (s : State) (width : Nat) (w : TxnWord), s.rst = false →
    (width ≠ 32 → s.perform (.host width w) = .refused .accessWidth) ∧
    (width = 32 → (w.getLsbD 32 = true ∨ w.getLsbD 33 = true) → s.perform (.host width w) = .refused .misaligned)

/-- The two MISALIGNED rows and the three RESERVED_STATE rows are refused by name (20_memory R66, 30_encoding R100). -/
def Obligations.StoppedRowsRefuse : Prop :=
  ∀ s : State,
    (∀ we offHi data, exec (.misalignedB0 we offHi data) s = .refused .misaligned) ∧
    (∀ we offHi data, exec (.misalignedB1 we offHi data) s = .refused .misaligned) ∧
    exec .reservedState13 s = .refused .reservedState ∧
    (∀ lo, exec (.reservedState14 lo) s = .refused .reservedState) ∧
    (∀ lo, exec (.reservedState18 lo) s = .refused .reservedState)

/-- R100: with a reserved code in STATE the SEQ step is refused; STATE holds none after reset, and no event writes one where
none stands. -/
def Obligations.ReservedCodesNeverWritten : Prop :=
  State.reset.blk.state.toNat ≤ 0x12 ∧
  (∀ s : State, s.rst = false → 0x13 ≤ s.blk.state.toNat → s.perform .seq = .refused .reservedState) ∧
  (∀ (s t : State) (e : Event), s.blk.state.toNat ≤ 0x12 → s.perform e = .next t → t.blk.state.toNat ≤ 0x12)

/-! ## Reset -/

/-- R54: the values after reset. A `rst` of 1 gives every block register its value from any state and leaves LINE alone;
State.reset has the same values. PAYLOAD and CFG_SAVED are unspecified there and are not stated; no window word shows any. -/
def Obligations.ResetValues : Prop :=
  ∀ s : State, ∃ t, s.perform (.rst true) = .next t ∧ t.line = s.line ∧ t.irqDone = false ∧
    State.reset.irqDone = false ∧
    ∀ b : Block, b = t.blk ∨ b = State.reset.blk →
      b.state = 0x00#5 ∧ b.baud = 0x0001C200#32 ∧ b.sessionBaud = 0#32 ∧ b.pulses = 0#32 ∧ b.idx = 0#32 ∧
      b.attempts = 0#32 ∧ b.cancelFlag = false ∧ b.synced = false ∧ b.result.code = 0#2 ∧ b.faultCause.code = 0#4 ∧
      b.faultInfo = 0#32 ∧ b.restoreFail = false ∧ b.ackb = 0#16 ∧ b.lenb = 0#8 ∧ b.infoLen = 0#16 ∧
      b.payCount = 0#16 ∧ b.lineHeld = false ∧ b.cfgSavedValid = false ∧ b.timer = 0 ∧ b.status = 0#32 ∧
      ∀ k, b.windowWord k = 0#32

/-- While `rst` is 1 the block performs no SEQ step, takes no request and sends no frame, a HOST access is lost and refused,
and the timer stands; LINE goes on: what the peer sends is queued, a frame of the peer byte by byte, valid or not
(70_reset R270, R272; LINE's other steps are those of LineStepsTouchOnlyLine, whatever `rst` is). -/
def Obligations.ResetBlocksTheBlock : Prop :=
  ∀ s : State, s.rst = true →
    s.perform .seq = .next s ∧ s.perform .clk = .next s ∧ s.perform .tick = .next s ∧ s.perform .expire = .next s ∧
    (∀ level, s.perform (.pin level) = .next s) ∧
    (∀ bs, s.perform (.wireOut bs) = .next s) ∧
    (∀ width w, s.perform (.host width w) = .refused .hostDuringReset) ∧
    (∀ es, s.perform (.line (.rx es)) = .next { s with line := { s.line with rxq := s.line.rxq ++ es } }) ∧
    (∀ bs, s.perform (.syncIn bs) = .next { s with line := { s.line with rxq := s.line.rxq ++ bs.map .byte } }) ∧
    (∀ bs, s.perform (.infoIn bs) = .next { s with line := { s.line with rxq := s.line.rxq ++ bs.map .byte } }) ∧
    s.perform (.rst false) = .next { s with rst := false }

/-! ## HOST -/

/-- R216: writes to the read-only registers, to a reserved offset and to the window change no state, a CTRL write with
v[1:0] = 0 does nothing, and a read of CTRL returns 0. -/
def Obligations.IgnoredWrites : Prop :=
  ∀ (s : State) (d : Word),
    exec (.statusWr d) s = .next s ∧ exec (.attemptsWr d) s = .next s ∧ exec (.pulsesWr d) s = .next s ∧
    exec (.infoLenWr d) s = .next s ∧ exec (.faultInfoWr d) s = .next s ∧ exec (.payCountWr d) s = .next s ∧
    (∀ idx, exec (.rsvdWr idx d) s = .next s) ∧ (∀ k, exec (.payWr k d) s = .next s) ∧
    exec (.ctrlNop d) s = .next s ∧ exec (.ctrlRd d) s = .next { s with hostData := 0#32 }

/-- R62: a 32-bit aligned read of a reserved offset (0x020 to 0x0FFFC, four times idx) returns 0, a write to one has no
effect, and neither is an error. -/
def Obligations.ReservedOffsets : Prop :=
  ∀ (s : State) (idx : BitVec 14) (d : Word), s.rst = false → 8 ≤ idx.toNat →
    s.perform (.host 32 (0#1 ++ (0#1 ++ idx ++ 0#2) ++ d)) = .next { s with hostData := 0#32 } ∧
    s.perform (.host 32 (1#1 ++ (0#1 ++ idx ++ 0#2) ++ d)) = .next s ∧
    exec (.rsvdRd idx d) s = .next { s with hostData := 0#32 } ∧ exec (.rsvdWr idx d) s = .next s

/-- The register reads return their registers, zero-extended, and change nothing else (44_host_interface R206, R208 to
R212; 20_memory R67). -/
def Obligations.RegisterReads : Prop :=
  ∀ (s : State) (d : Word),
    exec (.baudRd d) s = .next { s with hostData := s.blk.baud } ∧
    exec (.attemptsRd d) s = .next { s with hostData := s.blk.attempts } ∧
    exec (.pulsesRd d) s = .next { s with hostData := s.blk.pulses } ∧
    exec (.infoLenRd d) s = .next { s with hostData := 0#16 ++ s.blk.infoLen } ∧
    exec (.faultInfoRd d) s = .next { s with hostData := s.blk.faultInfo } ∧
    exec (.payCountRd d) s = .next { s with hostData := 0#16 ++ s.blk.payCount }

/-- STATUS_RD returns the composition of 10_state R49, with the codes of RESULT (10_state R29) and of the fault causes
(60_exceptions R231) as numbers, and changes nothing else (44_host_interface R207). -/
def Obligations.StatusRead : Prop :=
  ∀ (s : State) (d : Word), ∃ v : Word, exec (.statusRd d) s = .next { s with hostData := v } ∧
    v.extractLsb' 0 5 = s.blk.state ∧ v.extractLsb' 5 3 = 0#3 ∧
    v.getLsbD 8 = (s.blk.state != 0x00#5 && s.blk.state != 0x12#5) ∧ v.getLsbD 9 = (s.blk.state == 0x12#5) ∧
    v.getLsbD 10 = s.blk.synced ∧ v.getLsbD 11 = s.blk.cancelFlag ∧ v.getLsbD 12 = s.blk.restoreFail ∧
    v.extractLsb' 13 3 = 0#3 ∧
    v.extractLsb' 16 2 = (match s.blk.result with
      | .none => 0#2
      | .success => 1#2
      | .cancelled => 2#2
      | .fault => 3#2) ∧
    v.extractLsb' 18 6 = 0#6 ∧
    v.extractLsb' 24 4 = (match s.blk.faultCause with
      | .none => 0#4
      | .usage => 1#4
      | .lineOpen => 2#4
      | .cfgGet => 3#4
      | .cfgSet => 4#4
      | .txIo => 5#4
      | .txClosed => 6#4
      | .rxIo => 7#4
      | .rxClosed => 8#4
      | .infoNak => 9#4
      | .alloc => 10#4
      | .cfgRestore => 11#4) ∧
    v.extractLsb' 28 4 = 0#4

/-- R50: BUSY, DONE and `irq_done` are functions of STATE alone, never BUSY and DONE together, and both 0 after reset. -/
def Obligations.BusyAndDone : Prop :=
  (∀ s : State, (s.blk.busy = true ↔ s.blk.state ≠ 0x00#5 ∧ s.blk.state ≠ 0x12#5) ∧
    (s.blk.done = true ↔ s.blk.state = 0x12#5) ∧ (s.irqDone = true ↔ s.blk.state = 0x12#5) ∧
    ¬ (s.blk.busy = true ∧ s.blk.done = true)) ∧
  State.reset.blk.busy = false ∧ State.reset.blk.done = false

/-- PAY_RD shows byte 4k + j of the payload in byte lane j where PAY_COUNT counts it, and 0 elsewhere, and changes nothing
else (20_memory R63, R64, 44_host_interface R213). -/
def Obligations.PayloadWindowRead : Prop :=
  ∀ (s : State) (k : BitVec 14) (d : Word), ∃ v : Word, exec (.payRd k d) s = .next { s with hostData := v } ∧
    ∀ j : Nat, j < 4 → v.extractLsb' (8 * j) 8 =
      if 4 * k.toNat + j < s.blk.payCount.toNat then s.blk.payload.read (4 * k.toNat + j) else 0#8

/-- BAUD_WR stores all 32 bits, in any state, and changes nothing else (44_host_interface R205). -/
def Obligations.BaudWrite : Prop :=
  ∀ (s : State) (d : Word), exec (.baudWr d) s = .next { s with blk := { s.blk with baud := d } }

/-- START while no session is busy and BAUD is not 0: the session's registers are cleared, SESSION_BAUD is latched, STATE
becomes S_OPEN, and LINE, BAUD, PAYLOAD, CFG_SAVED and TIMER are untouched (44_host_interface R201; DATA bit 1 is 0). -/
def Obligations.StartBeginsSession : Prop :=
  ∀ (s : State) (d : Word), d.getLsbD 1 = false → s.blk.busy = false → s.blk.baud ≠ 0#32 →
    exec (.start d) s = .next { s with blk := { s.blk with
      sessionBaud := s.blk.baud, cancelFlag := false, attempts := 0#32, pulses := 0#32, idx := 0#32, synced := false
      result := .none, faultCause := .none, faultInfo := 0#32, restoreFail := false, ackb := 0#16, lenb := 0#8
      infoLen := 0#16, payCount := 0#16, lineHeld := false, cfgSavedValid := false, state := 0x01#5 } }

/-- START while no session is busy and BAUD is 0 faults USAGE at once: STATE is S_DONE, FSTATE the state it was issued in,
and no LINE request is made (44_host_interface R201, 60_exceptions R233, R241), whether or not DATA asks for CANCEL too. -/
def Obligations.StartUsage : Prop :=
  ∀ (s : State) (d : Word), s.blk.busy = false → s.blk.baud = 0#32 →
    exec (.start d) s = .next { s with blk := { s.blk with
      sessionBaud := 0#32, cancelFlag := false, attempts := 0#32, pulses := 0#32, idx := 0#32, synced := false
      result := .fault, faultCause := .usage, faultInfo := 0#11 ++ s.blk.state ++ 0#16, restoreFail := false
      ackb := 0#16, lenb := 0#8, infoLen := 0#16, payCount := 0#16, lineHeld := false, cfgSavedValid := false
      state := 0x12#5 } }

/-- START and CANCEL in one write: a session that begins, begins with CANCEL_FLAG 1; while busy START is ignored and the
flag is set; and START alone while busy changes nothing (44_host_interface R201, R204). -/
def Obligations.StartWithCancel : Prop :=
  ∀ (s : State) (d : Word),
    (s.blk.busy = false → s.blk.baud ≠ 0#32 → d.getLsbD 1 = true → ∃ t u : State,
      exec (.start (d &&& 0xFFFFFFFD#32)) s = .next t ∧ exec (.start d) s = .next u ∧
      t.blk.cancelFlag = false ∧ u = { t with blk := { t.blk with cancelFlag := true } } ∧ u.blk.state = 0x01#5) ∧
    (s.blk.busy = true → d.getLsbD 1 = true →
      exec (.start d) s = .next { s with blk := { s.blk with cancelFlag := true } }) ∧
    (s.blk.busy = true → d.getLsbD 1 = false → exec (.start d) s = .next s)

/-- CANCEL and `cancel_in` set CANCEL_FLAG while a session is busy, change nothing else, and are ignored otherwise
(44_host_interface R202, R203). -/
def Obligations.CancelRequests : Prop :=
  ∀ (s : State) (d : Word),
    (s.blk.busy = true →
      exec (.cancel d) s = .next { s with blk := { s.blk with cancelFlag := true } } ∧
      exec .cancelIn s = .next { s with blk := { s.blk with cancelFlag := true } }) ∧
    (s.blk.busy = false → exec (.cancel d) s = .next s ∧ exec .cancelIn s = .next s)

/-! ## Faults and the line -/

/-- R241: fault entry records RESULT, the cause, the raising state and the data; it goes to S_RESTORE when a restore is
owed, and otherwise to S_DONE, closing the line if it is held. Nothing else changes. -/
def Obligations.FaultEntry : Prop :=
  ∀ (s : State) (c : Cause) (d : BitVec 16),
    (s.blk.cfgSavedValid = true → s.raiseFault c d = { s with blk := { s.blk with
      result := .fault, faultCause := c, faultInfo := 0#11 ++ s.blk.state ++ d, state := 0x11#5 } }) ∧
    (s.blk.cfgSavedValid = false → s.blk.lineHeld = true → s.raiseFault c d = { s with
      blk := { s.blk with
        result := .fault, faultCause := c, faultInfo := 0#11 ++ s.blk.state ++ d, lineHeld := false, state := 0x12#5 }
      line := { s.line with reqlog := s.line.reqlog ++ [.close] } }) ∧
    (s.blk.cfgSavedValid = false → s.blk.lineHeld = false → s.raiseFault c d = { s with blk := { s.blk with
      result := .fault, faultCause := c, faultInfo := 0#11 ++ s.blk.state ++ d, state := 0x12#5 } })

/-- R113: the raw configuration is the saved one with these fields replaced. -/
def Obligations.RawConfiguration : Prop :=
  ∀ (saved : LineCfg) (b : Nat), rawCfg saved b = { saved with
    baud := b, dataBits := .eight, parity := .none, stopBits := .one, hwFlow := false, inFlowXlate := false
    ignoreModem := true, rxEnable := true, raw := true }

/-- S_OPEN takes the line where LINE answers OK, and faults LINE_OPEN where it answers FAIL; S_GETCFG saves the line's
configuration and owes a restore from there, or faults CFG_GET (40_line_transport R110, R111, R115; LINE answers by
`present` and its draw, log 6, and the requests are recorded, log 22). -/
def Obligations.OpenAndGetcfgSteps : Prop :=
  ∀ s : State,
    (s.line.present = true → exec .sOpen s = .next { s with
      blk := { s.blk with lineHeld := true, state := 0x02#5 }
      line := { s.line with reqlog := s.line.reqlog ++ [.openLine true] } }) ∧
    (s.line.present = false → exec .sOpen s =
      .next (State.raiseFault { s with line := { s.line with reqlog := s.line.reqlog ++ [.openLine false] } } .lineOpen 0#16)) ∧
    (s.line.getOk = true → exec .sGetcfg s = .next { s with
      blk := { s.blk with cfgSaved := s.line.cfg, cfgSavedValid := true, state := 0x03#5 }
      line := { s.line with reqlog := s.line.reqlog ++ [.cfgGet true] } }) ∧
    (s.line.getOk = false → exec .sGetcfg s =
      .next (State.raiseFault { s with line := { s.line with reqlog := s.line.reqlog ++ [.cfgGet false] } } .cfgGet 0#16))

/-- S_SETCFG installs RAW(CFG_SAVED, SESSION_BAUD) and begins the first attempt where LINE supports it and answers OK, and
faults CFG_SET with LINE's configuration unchanged otherwise (40_line_transport R112, R115, 42_sync_negotiator R151). -/
def Obligations.SetcfgStep : Prop :=
  ∀ (s : State) (c : LineCfg), c = rawCfg s.blk.cfgSaved s.blk.sessionBaud.toNat →
    (lineSupports s.params c = true → s.line.setOk = true → exec .sSetcfg s = .next { s with
      line := { s.line with cfg := c, reqlog := s.line.reqlog ++ [.cfgSet c true] }
      blk := { s.blk with
        attempts := s.blk.attempts + 1#32, pulses := BitVec.ofNat 32 (s.blk.sessionBaud.toNat * 5 / 10000)
        idx := 0#32, state := 0x04#5 } }) ∧
    (lineSupports s.params c = false ∨ s.line.setOk = false → exec .sSetcfg s =
      .next (State.raiseFault { s with line := { s.line with reqlog := s.line.reqlog ++ [.cfgSet c false] } } .cfgSet 0#16))

/-- S_RESTORE makes the one restore and closes the line: on OK the outcome stands, on FAIL RESTORE_FAIL is set and an
outcome that is no fault becomes CFG_RESTORE (40_line_transport R114, R115, 60_exceptions R238). That CFG_SAVED keeps its
record after the restore is the model's choice (log 8). -/
def Obligations.RestoreStep : Prop :=
  ∀ (s : State) (c : LineCfg), c = s.blk.cfgSaved →
    (lineSupports s.params c = true → s.line.setOk = true → exec .sRestore s = .next { s with
      line := { s.line with cfg := c, reqlog := s.line.reqlog ++ [.cfgSet c true, .close] }
      blk := { s.blk with cfgSavedValid := false, lineHeld := false, state := 0x12#5 } }) ∧
    (lineSupports s.params c = false ∨ s.line.setOk = false → s.blk.result = .fault → exec .sRestore s = .next { s with
      line := { s.line with reqlog := s.line.reqlog ++ [.cfgSet c false, .close] }
      blk := { s.blk with cfgSavedValid := false, lineHeld := false, restoreFail := true, state := 0x12#5 } }) ∧
    (lineSupports s.params c = false ∨ s.line.setOk = false → s.blk.result ≠ .fault → exec .sRestore s = .next { s with
      line := { s.line with reqlog := s.line.reqlog ++ [.cfgSet c false, .close] }
      blk := { s.blk with
        cfgSavedValid := false, lineHeld := false, restoreFail := true, result := .fault, faultCause := .cfgRestore
        faultInfo := 0x00110000#32, state := 0x12#5 } })

/-- R131: RxByte takes the head entry, whatever it is, and stalls exactly on the empty queue. -/
def Obligations.RxByteAnswers : Prop :=
  ∀ l : Line,
    (l.rxq = [] → l.rxByte = (.stall, l)) ∧
    (∀ b rest, l.rxq = .byte b :: rest → l.rxByte = (.byte b, { l with rxq := rest })) ∧
    (∀ rest, l.rxq = .error :: rest → l.rxByte = (.error, { l with rxq := rest })) ∧
    (∀ rest, l.rxq = .closed :: rest → l.rxByte = (.closed, { l with rxq := rest })) ∧
    (l.rxq ≠ [] → l.rxByte.1 ≠ .stall)

/-- R132: RxCount is the number of consecutive BYTE entries at the head of rxq, 0 when nothing is queued. -/
def Obligations.RxCountIsHeadRun : Prop :=
  (∀ (l : Line) (bs : List Byte) (q : List RxEntry), l.rxq = bs.map .byte ++ q → (∀ b q', q ≠ .byte b :: q') →
    l.rxCount = bs.length) ∧
  (∀ l : Line, l.rxq = [] → l.rxCount = 0) ∧
  (∀ l : Line, ∃ (bs : List Byte) (q : List RxEntry), l.rxq = bs.map .byte ++ q ∧ ∀ b q', q ≠ .byte b :: q')

/-! ## The sequencer's states -/

/-- S_PULSE: with all pulses sent it starts the settle timer; otherwise it offers one 0x55 and holds, faults, or counts it
(42_sync_negotiator R152, 41_byte_channel R130, R133, R140). An IDX beyond the train, which no run reaches, is the model's
fault (log 18). -/
def Obligations.PulseStep : Prop :=
  ∀ s : State,
    (s.blk.idx.toNat ≤ s.blk.pulses.toNat → exec .sPulse s = .next (
      if s.blk.idx = s.blk.pulses then
        { s with blk := { s.blk with timer := msToTicks s.params.fClk 20, state := 0x05#5 } }
      else match s.line.txState, s.line.txReady with
        | .ok, true => { s with
            line := { s.line with txlog := s.line.txlog ++ [0x55#8] }, blk := { s.blk with idx := s.blk.idx + 1#32 } }
        | .ok, false => s
        | .error, _ => s.raiseFault .txIo (s.blk.idx.extractLsb' 0 16)
        | .closed, _ => s.raiseFault .txClosed (s.blk.idx.extractLsb' 0 16))) ∧
    (s.blk.pulses.toNat < s.blk.idx.toNat → exec .sPulse s = .fault .transferIndex)

/-- S_HSHAKE and S_INFO_TX: with the 12, or 4, bytes sent they start the probe delay, or go on to the acknowledgment;
otherwise they offer the frame's byte IDX and hold, fault, or count it (42_sync_negotiator R154, 43_command_framer R181,
30_encoding R83, R84, 41_byte_channel R130, R133, R140). An IDX beyond the frame, which no run reaches, is the model's
fault (log 18). -/
def Obligations.FrameSendingSteps : Prop :=
  ∀ (s : State) (b : Byte),
    let offer : State := match s.line.txState, s.line.txReady with
      | .ok, true => { s with
          line := { s.line with txlog := s.line.txlog ++ [b] }, blk := { s.blk with idx := s.blk.idx + 1#32 } }
      | .ok, false => s
      | .error, _ => s.raiseFault .txIo (s.blk.idx.extractLsb' 0 16)
      | .closed, _ => s.raiseFault .txClosed (s.blk.idx.extractLsb' 0 16)
    ([0x50#8, 0x00#8, 0x08#8, 0x00#8, 0x38#8, 0xF0#8, 0x00#8, 0x20#8, 0x00#8, 0x00#8, 0x00#8, 0x18#8][s.blk.idx.toNat]? =
      some b → exec .sHshake s = .next offer) ∧
    (s.blk.idx = 12#32 → exec .sHshake s =
      .next { s with blk := { s.blk with timer := msToTicks s.params.fClk s.params.probeDelayMs, state := 0x07#5 } }) ∧
    (12 < s.blk.idx.toNat → exec .sHshake s = .fault .transferIndex) ∧
    ([0x10#8, 0x00#8, 0x00#8, 0x00#8][s.blk.idx.toNat]? = some b → exec .sInfoTx s = .next offer) ∧
    (s.blk.idx = 4#32 → exec .sInfoTx s = .next { s with blk := { s.blk with idx := 0#32, state := 0x0E#5 } }) ∧
    (4 < s.blk.idx.toNat → exec .sInfoTx s = .fault .transferIndex)

/-- S_IDLE and S_DONE have no action (44_host_interface R201, 60_exceptions R245; that their SEQ step holds is the model's
reading, log 24). S_SETTLE, S_BACKOFF and S_PROBE wait for the timer; then S_SETTLE goes to the handshake, S_BACKOFF begins
an attempt, and S_PROBE asks only whether a byte is at the head of rxq (42_sync_negotiator R151, R153, R155, R160,
60_exceptions R251). -/
def Obligations.WaitingStates : Prop :=
  ∀ s : State,
    exec .sIdle s = .next s ∧ exec .sDone s = .next s ∧
    (s.blk.timer ≠ 0 → exec .sSettle s = .next s ∧ exec .sBackoff s = .next s ∧ exec .sProbe s = .next s) ∧
    (s.blk.timer = 0 →
      exec .sSettle s = .next { s with blk := { s.blk with idx := 0#32, state := 0x06#5 } } ∧
      exec .sBackoff s = .next { s with blk := { s.blk with
        attempts := s.blk.attempts + 1#32, pulses := BitVec.ofNat 32 (s.blk.sessionBaud.toNat * 5 / 10000)
        idx := 0#32, state := 0x04#5 } } ∧
      exec .sProbe s = .next { s with blk := { s.blk with
        state := match s.line.rxq with
          | .byte _ :: _ => 0x08#5
          | _ => 0x0B#5 } })

/-- S_ACK_O and S_ACK_K take one entry: the expected byte goes on, another byte fails the attempt and is consumed, an empty
queue holds, and an error or a close faults with the number of bytes matched (42_sync_negotiator R156, R157). S_DRAIN
discards a byte whatever its value, and after three the negotiator is synchronized (R158). -/
def Obligations.SyncResponseSteps : Prop :=
  ∀ (s : State) (q : List RxEntry) (b : Byte),
    (s.line.rxq = .byte b :: q →
      exec .sAckO s = .next { s with
        line := { s.line with rxq := q }, blk := { s.blk with state := if b = 0x4F#8 then 0x09#5 else 0x0B#5 } } ∧
      exec .sAckK s = .next { s with
        line := { s.line with rxq := q }
        blk := { s.blk with
          idx := if b = 0x4B#8 then 0#32 else s.blk.idx
          state := if b = 0x4B#8 then 0x0A#5 else 0x0B#5 } }) ∧
    (s.line.rxq = [] → exec .sAckO s = .next s ∧ exec .sAckK s = .next s) ∧
    (s.line.rxq = .error :: q →
      exec .sAckO s = .next (State.raiseFault { s with line := { s.line with rxq := q } } .rxIo 0#16) ∧
      exec .sAckK s = .next (State.raiseFault { s with line := { s.line with rxq := q } } .rxIo 1#16)) ∧
    (s.line.rxq = .closed :: q →
      exec .sAckO s = .next (State.raiseFault { s with line := { s.line with rxq := q } } .rxClosed 0#16) ∧
      exec .sAckK s = .next (State.raiseFault { s with line := { s.line with rxq := q } } .rxClosed 1#16)) ∧
    (s.blk.idx.toNat < 3 → s.line.rxq = .byte b :: q → exec .sDrain s = .next { s with
      line := { s.line with rxq := q }, blk := { s.blk with idx := s.blk.idx + 1#32 } }) ∧
    (s.blk.idx = 3#32 → exec .sDrain s = .next { s with blk := { s.blk with
      synced := true, idx := 0#32, state := 0x0D#5 } })

/-- The receiving states' holds and line faults: with bytes still to read, S_DRAIN, S_INFO_ACK, S_INFO_LEN and S_INFO_PAY
hold on an empty queue, and fault on an error or a close with the number of bytes read (41_byte_channel R131, R134,
R140). -/
def Obligations.ReceiveHoldsAndFaults : Prop :=
  ∀ (s : State) (q : List RxEntry) (i : Instr),
    (i = .sDrain ∧ s.blk.idx.toNat < 3 ∨ i = .sInfoAck ∧ s.blk.idx.toNat < 2 ∨ i = .sInfoLen ∧ s.blk.idx.toNat < 2 ∨
      i = .sInfoPay ∧ s.blk.idx.toNat < s.blk.infoLen.toNat) →
    (s.line.rxq = [] → exec i s = .next s) ∧
    (s.line.rxq = .error :: q → exec i s =
      .next (State.raiseFault { s with line := { s.line with rxq := q } } .rxIo (s.blk.idx.extractLsb' 0 16))) ∧
    (s.line.rxq = .closed :: q → exec i s =
      .next (State.raiseFault { s with line := { s.line with rxq := q } } .rxClosed (s.blk.idx.extractLsb' 0 16)))

/-- S_INFO_ACK reads both bytes, the first into ACKB 7:0 and the second into 15:8, before it compares; a pair that is not
4F 4B faults INFO_NAK with the pair (43_command_framer R182, 30_encoding R89). -/
def Obligations.InfoAckStep : Prop :=
  ∀ (s : State) (b : Byte) (q : List RxEntry),
    (s.blk.idx = 0#32 → s.line.rxq = .byte b :: q → exec .sInfoAck s = .next { s with
      line := { s.line with rxq := q }, blk := { s.blk with idx := 1#32, ackb := s.blk.ackb.extractLsb' 8 8 ++ b } }) ∧
    (s.blk.idx = 1#32 → s.line.rxq = .byte b :: q → exec .sInfoAck s = .next { s with
      line := { s.line with rxq := q }, blk := { s.blk with idx := 2#32, ackb := b ++ s.blk.ackb.extractLsb' 0 8 } }) ∧
    (s.blk.idx = 2#32 → s.blk.ackb = 0x4B4F#16 →
      exec .sInfoAck s = .next { s with blk := { s.blk with idx := 0#32, state := 0x0F#5 } }) ∧
    (s.blk.idx = 2#32 → s.blk.ackb ≠ 0x4B4F#16 → exec .sInfoAck s = .next (s.raiseFault .infoNak s.blk.ackb))

/-- S_INFO_LEN keeps the low byte in LENB, writes INFO_LEN with the second, then decides: ALLOC above PAYLOAD_CAP, success
at once for an empty payload, else the payload (43_command_framer R183, 30_encoding R87, 60_exceptions R239). -/
def Obligations.InfoLenStep : Prop :=
  ∀ (s : State) (b : Byte) (q : List RxEntry),
    (s.blk.idx = 0#32 → s.line.rxq = .byte b :: q → exec .sInfoLen s = .next { s with
      line := { s.line with rxq := q }, blk := { s.blk with idx := 1#32, lenb := b } }) ∧
    (s.blk.idx = 1#32 → s.line.rxq = .byte b :: q → exec .sInfoLen s = .next { s with
      line := { s.line with rxq := q }, blk := { s.blk with idx := 2#32, infoLen := b ++ s.blk.lenb } }) ∧
    (s.blk.idx = 2#32 → s.params.payloadCap < s.blk.infoLen.toNat →
      exec .sInfoLen s = .next (s.raiseFault .alloc s.blk.infoLen)) ∧
    (s.blk.idx = 2#32 → s.blk.infoLen = 0#16 →
      exec .sInfoLen s = .next { s with blk := { s.blk with result := .success, state := 0x11#5 } }) ∧
    (s.blk.idx = 2#32 → s.blk.infoLen ≠ 0#16 → s.blk.infoLen.toNat ≤ s.params.payloadCap →
      exec .sInfoLen s = .next { s with blk := { s.blk with idx := 0#32, state := 0x10#5 } })

/-- S_INFO_PAY stores each byte at its index with the PAY_COUNT that counts it, leaves every other index reading as before,
and succeeds after the L-th (43_command_framer R184, 20_memory R77; that bytes at or above PAY_COUNT keep what they held is
the model's choice, log 7). -/
def Obligations.InfoPayStep : Prop :=
  ∀ (s : State) (b : Byte) (q : List RxEntry), s.blk.payload.wf = true → s.blk.infoLen.toNat ≤ s.params.payloadCap →
    (s.blk.idx.toNat < s.blk.infoLen.toNat → s.line.rxq = .byte b :: q → ∃ m : Memory,
      exec .sInfoPay s = .next { s with
        line := { s.line with rxq := q }
        blk := { s.blk with
          idx := s.blk.idx + 1#32, payload := m, payCount := BitVec.ofNat 16 (s.blk.idx.toNat + 1) } } ∧
      m.wf = true ∧ ∀ a, m.read a = if a = s.blk.idx.toNat then b else s.blk.payload.read a) ∧
    (s.blk.idx.toNat = s.blk.infoLen.toNat →
      exec .sInfoPay s = .next { s with blk := { s.blk with result := .success, state := 0x11#5 } })

/-- S_FAILCHK ends the session CANCELLED where CANCEL_FLAG is 1, and otherwise starts the backoff (42_sync_negotiator
R159). -/
def Obligations.FailchkStep : Prop :=
  ∀ s : State,
    (s.blk.cancelFlag = true →
      exec .sFailchk s = .next { s with blk := { s.blk with result := .cancelled, state := 0x11#5 } }) ∧
    (s.blk.cancelFlag = false →
      exec .sFailchk s = .next { s with blk := { s.blk with
        timer := msToTicks s.params.fClk s.params.backoffMs, state := 0x0C#5 } })

/-- R252, the timed model: ms_to_ticks is the ceiling of ms × F_CLK / 1000, and each `clk` moves TIMER down by one while
it is above 0; the untimed model's expiry sets it to 0. -/
def Obligations.TimerEvents : Prop :=
  (∀ f ms : Nat, 1000 * msToTicks f ms < ms * f + 1000 ∧ ms * f ≤ 1000 * msToTicks f ms) ∧
  (∀ s : State, s.rst = false →
    s.perform .tick = .next { s with blk := { s.blk with timer := if s.blk.timer > 0 then s.blk.timer - 1 else 0 } } ∧
    s.perform .expire = .next { s with blk := { s.blk with timer := 0 } })

/-! ## Wire frames -/

/-- A frame of the peer arrives: its bytes are queued in order behind what is queued, and nothing else changes (30_encoding
R85, R86, 10_state R42, R44; that these rows stand for the arrival is the model's choice, log 10). -/
def Obligations.PeerFramesArrive : Prop :=
  ∀ (s : State) (t0 t1 t2 : Byte) (len : BitVec 16) (payload : List Byte),
    exec (.syncAck t0 t1 t2) s = .next { s with line := { s.line with
      rxq := s.line.rxq ++ [.byte 0x4F#8, .byte 0x4B#8, .byte t0, .byte t1, .byte t2] } } ∧
    exec (.infoResp len payload) s = .next { s with line := { s.line with
      rxq := s.line.rxq ++ ([.byte 0x4F#8, .byte 0x4B#8, .byte (len.extractLsb' 0 8), .byte (len.extractLsb' 8 8)] ++
        payload.map .byte) } }

/-- A frame of the block goes out in the state that sends it: where LINE takes bytes, the bytes from IDX on are appended to
txlog in order, IDX ends behind the last, and nothing else changes; a PULSE is one byte of the train (42_sync_negotiator
R152, R154, 43_command_framer R181, 30_encoding R82 to R84). In any other state, where the frame is out already, and where
LINE stalls, the row changes nothing; where LINE answers an error or a close with a byte still to send, it faults with the
number of bytes sent. The row as a step is the model's choice (log 11); an IDX beyond the frame, which no run reaches, is
the model's fault (log 18). -/
def Obligations.FramesGoOut : Prop :=
  ∀ s : State,
    (s.blk.state ≠ 0x04#5 → exec .pulse s = .next s) ∧
    (s.blk.state ≠ 0x06#5 → exec .handshake s = .next s) ∧
    (s.blk.state ≠ 0x0D#5 → exec .infoCmd s = .next s) ∧
    (s.blk.state = 0x04#5 → s.blk.idx = s.blk.pulses → exec .pulse s = .next s) ∧
    (s.blk.state = 0x06#5 → s.blk.idx = 12#32 → exec .handshake s = .next s) ∧
    (s.blk.state = 0x0D#5 → s.blk.idx = 4#32 → exec .infoCmd s = .next s) ∧
    (s.blk.state = 0x04#5 → s.blk.pulses.toNat < s.blk.idx.toNat → exec .pulse s = .fault .transferIndex) ∧
    (s.blk.state = 0x06#5 → 12 < s.blk.idx.toNat → exec .handshake s = .fault .transferIndex) ∧
    (s.blk.state = 0x0D#5 → 4 < s.blk.idx.toNat → exec .infoCmd s = .fault .transferIndex) ∧
    (s.line.txState = .ok → s.line.txReady = false →
      (s.blk.state = 0x04#5 → s.blk.idx.toNat < s.blk.pulses.toNat → exec .pulse s = .next s) ∧
      (s.blk.state = 0x06#5 → s.blk.idx.toNat < 12 → exec .handshake s = .next s) ∧
      (s.blk.state = 0x0D#5 → s.blk.idx.toNat < 4 → exec .infoCmd s = .next s)) ∧
    (∀ c : Cause, s.line.txState = .error ∧ c = .txIo ∨ s.line.txState = .closed ∧ c = .txClosed →
      (s.blk.state = 0x04#5 → s.blk.idx.toNat < s.blk.pulses.toNat →
        exec .pulse s = .next (s.raiseFault c (s.blk.idx.extractLsb' 0 16))) ∧
      (s.blk.state = 0x06#5 → s.blk.idx.toNat < 12 →
        exec .handshake s = .next (s.raiseFault c (s.blk.idx.extractLsb' 0 16))) ∧
      (s.blk.state = 0x0D#5 → s.blk.idx.toNat < 4 →
        exec .infoCmd s = .next (s.raiseFault c (s.blk.idx.extractLsb' 0 16)))) ∧
    (s.line.txState = .ok → s.line.txReady = true →
      (s.blk.state = 0x04#5 → s.blk.idx.toNat < s.blk.pulses.toNat → exec .pulse s = .next { s with
        line := { s.line with txlog := s.line.txlog ++ [0x55#8] }, blk := { s.blk with idx := s.blk.idx + 1#32 } }) ∧
      (s.blk.state = 0x06#5 → s.blk.idx.toNat < 12 → exec .handshake s = .next { s with
        line := { s.line with txlog := s.line.txlog ++ (List.drop s.blk.idx.toNat
          [0x50#8, 0x00#8, 0x08#8, 0x00#8, 0x38#8, 0xF0#8, 0x00#8, 0x20#8, 0x00#8, 0x00#8, 0x00#8, 0x18#8]) }
        blk := { s.blk with idx := 12#32 } }) ∧
      (s.blk.state = 0x0D#5 → s.blk.idx.toNat < 4 → exec .infoCmd s = .next { s with
        line := { s.line with txlog := s.line.txlog ++ List.drop s.blk.idx.toNat [0x10#8, 0x00#8, 0x00#8, 0x00#8] }
        blk := { s.blk with idx := 4#32 } }))

/-- A frame that goes out is nothing but the SEQ steps that send it, whatever LINE answers: while tx_state is OK (LINE
takes bytes or stalls), HANDSHAKE from S_HSHAKE with IDX at most 12 is 12 - IDX SEQ steps, and INFO_CMD likewise 4 - IDX
from S_INFO_TX; where LINE answers an error or a close, it is the one SEQ step that faults; and a PULSE is one SEQ step of
S_PULSE with a pulse still to send (41_byte_channel R133; the row as a step is the model's choice, log 11). -/
def Obligations.FrameIsItsSteps : Prop :=
  ∀ s : State, s.rst = false →
    (s.line.txState = .ok →
      (s.blk.state = 0x06#5 → s.blk.idx.toNat ≤ 12 → exec .handshake s = seqRun (12 - s.blk.idx.toNat) s) ∧
      (s.blk.state = 0x0D#5 → s.blk.idx.toNat ≤ 4 → exec .infoCmd s = seqRun (4 - s.blk.idx.toNat) s)) ∧
    (s.line.txState ≠ .ok →
      (s.blk.state = 0x06#5 → s.blk.idx.toNat < 12 → exec .handshake s = seqRun 1 s) ∧
      (s.blk.state = 0x0D#5 → s.blk.idx.toNat < 4 → exec .infoCmd s = seqRun 1 s)) ∧
    (s.blk.state = 0x04#5 → s.blk.idx.toNat < s.blk.pulses.toNat → exec .pulse s = seqRun 1 s)

/-! ## Runs of SEQ steps -/

/-- The pulse train: from S_PULSE with IDX 0 and LINE taking bytes, PULSES + 1 SEQ steps append exactly PULSES bytes of
0x55, start the settle timer and end in S_SETTLE (42_sync_negotiator R152, R166). -/
def Obligations.PulseTrainRuns : Prop :=
  ∀ s : State, s.rst = false → s.blk.state = 0x04#5 → s.blk.idx = 0#32 → s.line.txState = .ok → s.line.txReady = true →
    seqRun (s.blk.pulses.toNat + 1) s = .next { s with
      line := { s.line with txlog := s.line.txlog ++ List.replicate s.blk.pulses.toNat 0x55#8 }
      blk := { s.blk with idx := s.blk.pulses, timer := msToTicks s.params.fClk 20, state := 0x05#5 } }

/-- Synchronization in one attempt: from S_PROBE with the timer expired and 4F 4B and three bytes at the head of rxq, seven
SEQ steps take exactly those five bytes and end in S_INFO_TX with SYNCED 1 (42_sync_negotiator R155 to R158). -/
def Obligations.SyncInOneAttempt : Prop :=
  ∀ (s : State) (t0 t1 t2 : Byte) (q : List RxEntry), s.rst = false → s.blk.state = 0x07#5 → s.blk.timer = 0 →
    s.line.rxq = .byte 0x4F#8 :: .byte 0x4B#8 :: .byte t0 :: .byte t1 :: .byte t2 :: q →
    seqRun 7 s = .next { s with
      line := { s.line with rxq := q }, blk := { s.blk with synced := true, idx := 0#32, state := 0x0D#5 } }

/-- The info response is decoded whole: from S_INFO_ACK with IDX 0 and the response at the head of rxq, with a length the
buffer can hold, the SEQ steps store exactly the payload at indices 0 to L - 1, read every other index as before, set
PAY_COUNT = INFO_LEN = L and RESULT = SUCCESS, leave what follows in rxq, and end in S_RESTORE (43_command_framer R182 to
R187; that bytes at or above PAY_COUNT keep what they held is the model's choice, log 7). -/
def Obligations.InfoResponseDecoded : Prop :=
  ∀ (s : State) (payload : List Byte) (len : BitVec 16) (q : List RxEntry),
    s.rst = false → s.blk.state = 0x0E#5 → s.blk.idx = 0#32 → s.blk.payload.wf = true → s.blk.payCount = 0#16 →
    payload.length = len.toNat → len.toNat ≤ s.params.payloadCap →
    s.line.rxq = .byte 0x4F#8 :: .byte 0x4B#8 :: .byte (len.extractLsb' 0 8) :: .byte (len.extractLsb' 8 8) ::
      (payload.map .byte ++ q) →
    ∃ t : State, seqRun (6 + (if payload = [] then 0 else payload.length + 1)) s = .next t ∧
      t.blk.state = 0x11#5 ∧ t.blk.result = .success ∧ t.blk.infoLen = len ∧ t.blk.payCount = len ∧ t.line.rxq = q ∧
      (∀ a (h : a < payload.length), t.blk.payload.read a = payload[a]) ∧
      (∀ a, payload.length ≤ a → t.blk.payload.read a = s.blk.payload.read a) ∧
      t.line.txlog = s.line.txlog ∧ t.params = s.params

/-- A hold never ends by itself: where a byte wait meets STALL, any number of SEQ steps changes nothing, with or without a
pending cancellation (41_byte_channel R139, 70_reset R280). -/
def Obligations.HoldsForEver : Prop :=
  ∀ (s : State) (k : Nat), s.rst = false →
    (s.line.rxq = [] ∧ (s.blk.state = 0x09#5 ∨ s.blk.state = 0x0A#5 ∧ s.blk.idx.toNat < 3 ∨
        s.blk.state = 0x0E#5 ∧ s.blk.idx.toNat < 2 ∨ s.blk.state = 0x0F#5 ∧ s.blk.idx.toNat < 2 ∨
        s.blk.state = 0x10#5 ∧ s.blk.idx.toNat < s.blk.infoLen.toNat) ∨
      s.line.txState = .ok ∧ s.line.txReady = false ∧ (s.blk.state = 0x04#5 ∧ s.blk.idx.toNat < s.blk.pulses.toNat ∨
        s.blk.state = 0x06#5 ∧ s.blk.idx.toNat < 12 ∨ s.blk.state = 0x0D#5 ∧ s.blk.idx.toNat < 4)) →
    seqRun k s = .next s

/-- The settle wait in the timed model: from S_SETTLE with TIMER = n + 1, n clock cycles leave STATE at S_SETTLE and one
more moves it to S_HSHAKE (42_sync_negotiator R153, 60_exceptions R252, 70_reset R291; that the SEQ step of a cycle sees
the decremented TIMER is the model's reading, log 14). -/
def Obligations.SettleTakesItsTicks : Prop :=
  ∀ (s : State) (n : Nat) (rest : List Event), s.rst = false → s.blk.state = 0x05#5 → s.blk.timer = n + 1 →
    s.inputs = List.replicate (n + 1) .clk ++ rest →
    Host.Core.run Sys2Proof.core n s = .next { s with inputs := .clk :: rest, blk := { s.blk with timer := 1 } } ∧
    Host.Core.run Sys2Proof.core (n + 1) s = .next { s with
      inputs := rest, blk := { s.blk with timer := 0, idx := 0#32, state := 0x06#5 } }

/-- The timed waits end in the untimed model: in a run in which the timer's expiry is weakly fair, SEQ always steps again,
and no reset comes from some point on, S_SETTLE is followed by S_HSHAKE, S_BACKOFF by S_PULSE, and S_PROBE by S_ACK_O or
S_FAILCHK (00_scope R14, 60_exceptions R252, 42_sync_negotiator R153, R155, R160; that SEQ always steps again is a premise
of the statement, log 14). -/
def Obligations.FairWaitsEnd : Prop :=
  ∀ (r : Nat → State) (e : Nat → Event) (n : Nat), untimedRun r e → (∀ k, ∃ m, k ≤ m ∧ e m = .seq) →
    (∀ m, n ≤ m → (r m).rst = false) →
    ((r n).blk.state = 0x05#5 → ∃ m, n < m ∧ (r m).blk.state = 0x06#5) ∧
    ((r n).blk.state = 0x0C#5 → ∃ m, n < m ∧ (r m).blk.state = 0x04#5) ∧
    ((r n).blk.state = 0x07#5 → ∃ m, n < m ∧ ((r m).blk.state = 0x08#5 ∨ (r m).blk.state = 0x0B#5))

/-! ## The whole machine -/

/-- The invariant holds right after reset (10_state R54, 70_reset R273). Its clauses on PAYLOAD's contents, CFG_SAVED and
onWire rest on the model's choices (log 7, log 8, log 21). -/
def Obligations.InvAtReset : Prop := machineInv State.reset

/-- Every step keeps the invariant: STATE holds a defined code; LINE_HELD, CFG_SAVED_VALID, SYNCED, RESULT, FAULT_CAUSE and
RESTORE_FAIL agree with it; IDX stays within its transfer; a success has stored its whole payload; the payload buffer is
canonical and within its capacity; TIMER fits in TIMER_W bits; the block stays reset while `rst` is held (10_state R21,
R25, R29, R36 to R39; 40_line_transport R116; 42_sync_negotiator R156; 43_command_framer R187; 70_reset R270), and no more
bytes are on the wire than were accepted (10_state R43). The model's choices in it: the payload buffer's canonical form, and
that a held `rst` leaves PAYLOAD empty (log 7) and CFG_SAVED the example record (log 8), both of which 70_reset R271 leaves
unspecified; that onWire counts the bytes on the wire (log 21); and that TIMER is bounded under paramsAdmissible, which asks
PROBE_DELAY_MS to fit too and admits an F_CLK of 0 (log 30). -/
def Obligations.StepKeepsInv : Prop :=
  ∀ s t : State, machineInv s → step s = .next t → machineInv t

/-- From every state of the invariant, whatever event comes, a step meets no model fault, and refuses only a HOST access of
the wrong form (20_memory R66) or during reset (70_reset R270), or bytes said to be sent that are no frame of the block:
00_scope R12 names the first and the reserved STATE codes, which the invariant rules out (30_encoding R100); that such bytes,
which the block never sends (30_encoding R90), are refused is the model's reading (log 28). That no model fault arises is
R11's and R12's; the invariant's own choices are those of StepKeepsInv. -/
def Obligations.StepIsSafe : Prop :=
  ∀ s : State, machineInv s → SafeResult (step s)

/-- The registers have their writers: an instruction that changes BAUD, SESSION_BAUD, PULSES, ATTEMPTS, CANCEL_FLAG, SYNCED,
RESTORE_FAIL, ACKB, LENB, INFO_LEN, PAY_COUNT, CFG_SAVED, CFG_SAVED_VALID, TIMER or LINE's configuration is one the spec
names for it; the payload buffer is stored to by S_INFO_PAY alone and the read data by the read rows (11 to 19 and 21 of
hostTable) alone; a HOST access but START, CANCEL and BAUD_WR (rows 0, 1 and 3) changes neither the block nor LINE; and no
instruction changes the parameters, the reset pin or the schedule (10_state R20 to R39, R48; 20_memory R67; 60_exceptions
R250). That no instruction but S_GETCFG changes CFG_SAVED, so not S_RESTORE, and that payload bytes at or above PAY_COUNT
keep what they held, are the model's choices (log 8, log 7). -/
def Obligations.RegistersHaveTheirWriters : Prop :=
  ∀ (i : Instr) (s t : State), exec i s = .next t →
    let starts := ∃ d, i = .start d
    (t.blk.baud ≠ s.blk.baud → ∃ d, i = .baudWr d) ∧
    (t.blk.sessionBaud ≠ s.blk.sessionBaud → starts) ∧
    (t.blk.pulses ≠ s.blk.pulses → starts ∨ i = .sSetcfg ∨ i = .sBackoff) ∧
    (t.blk.attempts ≠ s.blk.attempts → starts ∨ i = .sSetcfg ∨ i = .sBackoff) ∧
    (t.blk.cancelFlag ≠ s.blk.cancelFlag → starts ∨ (∃ d, i = .cancel d) ∨ i = .cancelIn) ∧
    (t.blk.synced ≠ s.blk.synced → starts ∨ i = .sDrain) ∧
    (t.blk.restoreFail ≠ s.blk.restoreFail → starts ∨ i = .sRestore) ∧
    (t.blk.ackb ≠ s.blk.ackb → starts ∨ i = .sInfoAck) ∧
    (t.blk.lenb ≠ s.blk.lenb → starts ∨ i = .sInfoLen) ∧
    (t.blk.infoLen ≠ s.blk.infoLen → starts ∨ i = .sInfoLen) ∧
    (t.blk.payCount ≠ s.blk.payCount → starts ∨ i = .sInfoPay) ∧
    (t.blk.cfgSaved ≠ s.blk.cfgSaved → i = .sGetcfg) ∧
    (t.blk.cfgSavedValid ≠ s.blk.cfgSavedValid → starts ∨ i = .sGetcfg ∨ i = .sRestore) ∧
    (t.blk.timer ≠ s.blk.timer → i = .sPulse ∨ i = .sHshake ∨ i = .sFailchk) ∧
    (i ≠ .sInfoPay → ∀ a, t.blk.payload.read a = s.blk.payload.read a) ∧
    (t.line.cfg ≠ s.line.cfg → i = .sSetcfg ∨ i = .sRestore) ∧
    (t.hostData ≠ s.hostData → ∃ row, i.hostRow? = some row ∧ (11 ≤ row ∧ row ≤ 19 ∨ row = 21)) ∧
    (∀ row, i.hostRow? = some row → row ≠ 0 → row ≠ 1 → row ≠ 3 → t.blk = s.blk ∧ t.line = s.line) ∧
    t.params = s.params ∧ t.rst = s.rst ∧ t.inputs = s.inputs ∧ t.evIdx = s.evIdx

/-- LINE's streams: whatever event happens, txlog only grows, and only by a SEQ step or a frame the block sends; rxq loses at
most its head, and only by a SEQ step, and gains entries only behind the rest (10_state R42, R43, 41_byte_channel R141,
42_sync_negotiator R163). -/
def Obligations.StreamsKeepTheirOrder : Prop :=
  ∀ (s t : State) (e : Event), s.perform e = .next t →
    (∃ bs : List Byte, t.line.txlog = s.line.txlog ++ bs ∧
      (bs ≠ [] → e = .seq ∨ e = .clk ∨ ∃ f, e = .wireOut f)) ∧
    (∃ (n : Nat) (es : List RxEntry), t.line.rxq = s.line.rxq.drop n ++ es ∧ n ≤ 1 ∧
      (n ≠ 0 → e = .seq ∨ e = .clk) ∧ (es ≠ [] → n = 0))

/-- LINE's own steps, each with its effect and with nothing else changed, in the block or in LINE: the peer's entries are
queued behind the rest; an overrun and a line error append what RX_OVERRUN and RX_LINE_ERRORS say, or nothing; LINE changes
tx_state, `present` and whether the next TxByte stalls; the oldest accepted byte that waits goes onto the wire; and another
agent configures LINE while the block does not hold it, and not while it does (10_state R43, R45, R46, R47, 20_memory R71).
That LINE's draws for its control requests are set by steps, that onWire counts the bytes on the wire, and that another
agent's attempt while the block holds LINE changes nothing, are the model's (log 6, log 21, log 23). -/
def Obligations.LineStepsTouchOnlyLine : Prop :=
  ∀ s : State,
    (∀ es, s.perform (.line (.rx es)) = .next { s with line := { s.line with rxq := s.line.rxq ++ es } }) ∧
    s.perform (.line .overrun) = .next { s with line := { s.line with rxq := s.line.rxq ++
      (match s.params.rxOverrun with
      | .drop => []
      | .appendError => [.error]) } } ∧
    (∀ b, s.perform (.line (.lineError b)) = .next { s with line := { s.line with rxq := s.line.rxq ++
      (match s.params.rxLineErrors with
      | .appendError => [.error]
      | .appendByte => [.byte b]
      | .drop => []) } }) ∧
    (∀ t, s.perform (.line (.setTxState t)) = .next { s with line := { s.line with txState := t } }) ∧
    (∀ p, s.perform (.line (.setPresent p)) = .next { s with line := { s.line with present := p } }) ∧
    (∀ r, s.perform (.line (.setTxReady r)) = .next { s with line := { s.line with txReady := r } }) ∧
    (∀ ok, s.perform (.line (.setGetOk ok)) = .next { s with line := { s.line with getOk := ok } }) ∧
    (∀ ok, s.perform (.line (.setSetOk ok)) = .next { s with line := { s.line with setOk := ok } }) ∧
    (s.line.onWire < s.line.txlog.length →
      s.perform (.line .emit) = .next { s with line := { s.line with onWire := s.line.onWire + 1 } }) ∧
    (s.line.txlog.length ≤ s.line.onWire → s.perform (.line .emit) = .next s) ∧
    (∀ c, s.blk.lineHeld = false →
      s.perform (.line (.reconfigure c)) = .next { s with line := { s.line with cfg := c } }) ∧
    (∀ c, s.blk.lineHeld = true → s.perform (.line (.reconfigure c)) = .next s)

/-- CANCEL_FLAG is read by S_FAILCHK and nowhere else: in any other state a SEQ step does the same whatever the flag is
(10_state R27, 42_sync_negotiator R159, R162, 60_exceptions R240). -/
def Obligations.OnlyFailchkReadsCancel : Prop :=
  ∀ (s t : State) (v : Bool), s.blk.state ≠ 0x0B#5 → s.perform .seq = .next t →
    State.perform { s with blk := { s.blk with cancelFlag := v } } .seq =
      .next { t with blk := { t.blk with cancelFlag := v } }

/-- A BAUD write does not reach a session: SEQ steps do the same whatever BAUD holds, and never change it
(44_host_interface R205, 42_sync_negotiator R165, 70_reset R286). -/
def Obligations.SessionIgnoresBaud : Prop :=
  ∀ (s t : State) (v : Word), s.perform .seq = .next t →
    State.perform { s with blk := { s.blk with baud := v } } .seq = .next { t with blk := { t.blk with baud := v } }

/-- Synchronized is terminal within a session: while busy with SYNCED 1, no event but a reset leaves SYNCED 0 or STATE in
Negotiating (42_sync_negotiator R162, 30_encoding R99). -/
def Obligations.SynchronizedIsTerminal : Prop :=
  ∀ (s t : State) (e : Event), machineInv s → s.blk.busy = true → s.blk.synced = true → (∀ level, e ≠ .rst level) →
    s.perform e = .next t → t.blk.synced = true ∧ t.blk.negotiating = false ∧ t.blk.state ≠ 0x00#5

/-- The restore is owed until it is made, once: with CFG_SAVED_VALID 1, any event but a reset keeps CFG_SAVED and the debt,
or is the SEQ step of S_RESTORE, which asks LINE for exactly that configuration, then closes the line and ends the session
(40_line_transport R114, R116). -/
def Obligations.RestoreIsOwedUntilMade : Prop :=
  ∀ (s t : State) (e : Event), machineInv s → s.blk.cfgSavedValid = true → (∀ level, e ≠ .rst level) → s.perform e = .next t →
    (t.blk.cfgSavedValid = true ∧ t.blk.cfgSaved = s.blk.cfgSaved ∧
      ¬ ((e = .seq ∨ e = .clk) ∧ s.blk.state = 0x11#5)) ∨
    ((e = .seq ∨ e = .clk) ∧ s.blk.state = 0x11#5 ∧ t.blk.state = 0x12#5 ∧ t.blk.cfgSavedValid = false ∧
      ∃ ok, t.line.reqlog = s.line.reqlog ++ [.cfgSet s.blk.cfgSaved ok, .close])
end

