-- ==== Sys2Proof/Laws/Encoding.lean ====
section
/-! SUPPORT. The transaction word's fields are read back whole, and a word of fields matches a row field by field
(30_encoding R94). -/

namespace Sys2Proof

@[simp] theorem txnWord_we (we : BitVec 1) (off : Offset) (data : Word) : (txnWord we off data).extractLsb' 49 1 = we := by
  apply BitVec.eq_of_getLsbD_eq
  intro i hi
  simp [txnWord]
  grind

@[simp] theorem txnWord_off (we : BitVec 1) (off : Offset) (data : Word) : (txnWord we off data).extractLsb' 32 17 = off := by
  apply BitVec.eq_of_getLsbD_eq
  intro i hi
  simp [txnWord]
  grind

@[simp] theorem txnWord_data (we : BitVec 1) (off : Offset) (data : Word) : (txnWord we off data).extractLsb' 0 32 = data := by
  apply BitVec.eq_of_getLsbD_eq
  intro i hi
  simp [txnWord]
  grind

/-- Every word is the word of its fields: no bit is dropped. -/
theorem txnWord_fields (w : TxnWord) : txnWord (w.extractLsb' 49 1) (w.extractLsb' 32 17) (w.extractLsb' 0 32) = w := by
  apply BitVec.eq_of_getLsbD_eq
  intro i hi
  simp [txnWord]
  grind

/-- The decoder reads a word of fields by those fields. -/
theorem decodeHost_txnWord (we : BitVec 1) (off : Offset) (data : Word) :
    decodeHost (txnWord we off data) = decodeFields we off data := by
  simp [decodeHost]

/-- Two words of fields are equal exactly when the fields are. -/
theorem txnWord_inj {we we' : BitVec 1} {off off' : Offset} {data data' : Word} :
    txnWord we off data = txnWord we' off' data' ↔ we = we' ∧ off = off' ∧ data = data' := by
  constructor
  · intro h
    exact ⟨by rw [← txnWord_we we off data, h, txnWord_we], by rw [← txnWord_off we off data, h, txnWord_off],
      by rw [← txnWord_data we off data, h, txnWord_data]⟩
  · rintro ⟨rfl, rfl, rfl⟩; rfl

/-- A row whose mask and pattern are words of fields is matched field by field. -/
theorem hit_txnWord (we mwe pwe : BitVec 1) (off moff poff : Offset) (data mdata pdata : Word) :
    HostRow.hit ⟨txnWord pwe poff pdata, txnWord mwe moff mdata⟩ (txnWord we off data) = true ↔
      we &&& mwe = pwe ∧ off &&& moff = poff ∧ data &&& mdata = pdata := by
  have h : txnWord we off data &&& txnWord mwe moff mdata = txnWord (we &&& mwe) (off &&& moff) (data &&& mdata) := by
    apply BitVec.eq_of_getLsbD_eq
    intro i hi
    simp [txnWord]
    grind
  simp only [HostRow.hit, h, beq_iff_eq, txnWord_inj]

/-- The word index of an aligned offset. -/
@[simp] theorem wordOffset_idx (page : BitVec 1) (idx : BitVec 14) : (wordOffset page idx).extractLsb' 2 14 = idx := by
  apply BitVec.eq_of_getLsbD_eq
  intro i hi
  simp [wordOffset]
  grind

@[simp] theorem wordOffset_bit0 (page : BitVec 1) (idx : BitVec 14) : (wordOffset page idx)[0] = false := by
  simp only [wordOffset]
  grind

@[simp] theorem wordOffset_bit1 (page : BitVec 1) (idx : BitVec 14) : (wordOffset page idx)[1] = false := by
  simp only [wordOffset]
  grind

@[simp] theorem wordOffset_page (page : BitVec 1) (idx : BitVec 14) : (wordOffset page idx)[16] = page[0] := by
  simp only [wordOffset]
  grind

/-- Below the window an aligned write selects by word index. -/
theorem decode_encodeWrite (idx : BitVec 14) (data : Word) : decode (encodeWrite idx data) = .ok (decodeWrite idx data) := by
  simp [decode, encodeWrite, decodeHost_txnWord, decodeFields]

/-- Below the window an aligned read selects by word index. -/
theorem decode_encodeRead (idx : BitVec 14) (data : Word) : decode (encodeRead idx data) = .ok (decodeRead idx data) := by
  simp [decode, encodeRead, decodeHost_txnWord, decodeFields]

/-- The low byte of a length is its first wire byte, the high byte its second (30_encoding R87). -/
theorem len16_bytes (len : BitVec 16) : len16 (len.extractLsb' 0 8) (len.extractLsb' 8 8) = len := by
  apply BitVec.eq_of_getLsbD_eq
  intro i hi
  simp [len16]
  grind

/-- A length from two bytes, as a number (30_encoding R87). -/
theorem len16_toNat (b0 b1 : Byte) : (len16 b0 b1).toNat = b0.toNat + 256 * b1.toNat := by
  have h := b0.isLt
  have e : (len16 b0 b1).toNat = b1.toNat <<< 8 ||| b0.toNat := BitVec.toNat_append b1 b0
  rw [e, ← Nat.shiftLeft_add_eq_or_of_lt h, Nat.shiftLeft_eq]
  omega

end Sys2Proof
end

