-- ==== Sys2Proof/Laws/Memory.lean ====
section
/-! SUPPORT. The payload buffer: a write is read back, leaves every other index alone, and keeps the canonical form. -/

namespace Sys2Proof.Machine

@[simp] theorem Memory.read_nil (a : Nat) : Memory.read [] a = 0#8 := rfl

theorem Memory.read_cons (x : Nat) (v : Byte) (m : Memory) (a : Nat) :
    Memory.read ((x, v) :: m) a = if a = x then v else Memory.read m a := rfl

/-- An index below every listed one reads as an unlisted one does. -/
theorem Memory.read_of_above {m : Memory} {x a : Nat} (h : Memory.above x m = true) (ha : a ≤ x) :
    Memory.read m a = 0#8 := by
  induction m with
  | nil => rfl
  | cons c rest ih =>
    obtain ⟨y, v⟩ := c
    simp only [Memory.above, List.all_cons, Bool.and_eq_true, decide_eq_true_eq] at h
    rw [Memory.read_cons, if_neg (by omega)]
    exact ih h.2

theorem Memory.above_mono {m : Memory} {x y : Nat} (h : Memory.above x m = true) (hxy : y ≤ x) :
    Memory.above y m = true := by
  simp only [Memory.above, List.all_eq_true, decide_eq_true_eq] at h ⊢
  intro c hc
  have := h c hc
  omega

/-- Reading through a `cons`, whether or not it listed the byte. -/
theorem Memory.read_put (x : Nat) (b : Byte) (m : Memory) (a : Nat) (h : Memory.above x m = true ∨ b ≠ 0#8) :
    Memory.read (Memory.cons x b m) a = if a = x then b else Memory.read m a := by
  unfold Memory.cons
  split
  · rename_i hb
    split
    · rename_i ha
      rcases h with h | h
      · rw [hb, Memory.read_of_above h (by omega)]
      · exact absurd hb h
    · rfl
  · exact Memory.read_cons x b m a

/-- A write is read back where it went, and every other index reads as before. -/
theorem Memory.read_write {m : Memory} (hm : Memory.wf m = true) (x : Nat) (b : Byte) (a : Nat) :
    Memory.read (Memory.write m x b) a = if a = x then b else Memory.read m a := by
  induction m with
  | nil => exact Memory.read_put x b [] a (Or.inl rfl)
  | cons c rest ih =>
    obtain ⟨y, v⟩ := c
    simp only [Memory.wf, Bool.and_eq_true, bne_iff_ne, ne_eq] at hm
    obtain ⟨⟨hv, habove⟩, hrest⟩ := hm
    unfold Memory.write
    split
    · rename_i hlt
      refine Memory.read_put x b _ a (Or.inl ?_)
      simp only [Memory.above, List.all_cons, Bool.and_eq_true, decide_eq_true_eq]
      exact ⟨hlt, Memory.above_mono habove (by omega)⟩
    · split
      · rename_i _ heq
        subst heq
        rw [Memory.read_put x b rest a (Or.inl habove), Memory.read_cons]
        split <;> rfl
      · rename_i h1 h2
        rw [Memory.read_cons, ih hrest, Memory.read_cons]
        split
        · rw [if_neg (by omega)]
        · rfl

theorem Memory.above_write {m : Memory} {x a : Nat} {b : Byte} (h : Memory.above x m = true) (ha : x < a) :
    Memory.above x (Memory.write m a b) = true := by
  induction m with
  | nil => simp only [Memory.write, Memory.cons]; split <;> simp [Memory.above, ha]
  | cons c rest ih =>
    obtain ⟨y, v⟩ := c
    have h' := h
    simp only [Memory.above, List.all_cons, Bool.and_eq_true, decide_eq_true_eq] at h
    unfold Memory.write
    split
    · unfold Memory.cons
      split
      · exact h'
      · simp only [Memory.above, List.all_cons, Bool.and_eq_true, decide_eq_true_eq]
        exact ⟨ha, h.1, h.2⟩
    · split
      · unfold Memory.cons
        split
        · exact h.2
        · simp only [Memory.above, List.all_cons, Bool.and_eq_true, decide_eq_true_eq]
          exact ⟨ha, h.2⟩
      · have := ih h.2
        simp only [Memory.above, List.all_cons, Bool.and_eq_true, decide_eq_true_eq] at this ⊢
        exact ⟨h.1, this⟩

/-- A write keeps the canonical form. -/
theorem Memory.write_wf {m : Memory} (hm : Memory.wf m = true) (a : Nat) (b : Byte) :
    Memory.wf (Memory.write m a b) = true := by
  induction m with
  | nil => simp only [Memory.write, Memory.cons]; split <;> simp_all [Memory.wf, Memory.above]
  | cons c rest ih =>
    obtain ⟨y, v⟩ := c
    have hm' := hm
    simp only [Memory.wf, Bool.and_eq_true, bne_iff_ne, ne_eq] at hm
    obtain ⟨⟨hv, habove⟩, hrest⟩ := hm
    unfold Memory.write
    split
    · rename_i hlt
      unfold Memory.cons
      split
      · exact hm'
      · rename_i hb
        rw [Memory.wf, Bool.and_eq_true, Bool.and_eq_true]
        refine ⟨⟨by simpa using hb, ?_⟩, hm'⟩
        simp only [Memory.above, List.all_cons, Bool.and_eq_true, decide_eq_true_eq]
        exact ⟨hlt, Memory.above_mono habove (by omega)⟩
    · split
      · rename_i _ heq
        subst heq
        unfold Memory.cons
        split
        · exact hrest
        · rename_i hb
          rw [Memory.wf, Bool.and_eq_true, Bool.and_eq_true]
          exact ⟨⟨by simpa using hb, habove⟩, hrest⟩
      · rename_i h1 h2
        rw [Memory.wf, Bool.and_eq_true, Bool.and_eq_true]
        exact ⟨⟨by simpa using hv, Memory.above_write habove (by omega)⟩, ih hrest⟩

/-- A write below a bound keeps every listed index below it. -/
theorem Memory.below_write {m : Memory} {n a : Nat} {b : Byte} (h : Memory.below n m = true) (ha : a < n) :
    Memory.below n (Memory.write m a b) = true := by
  induction m with
  | nil => simp only [Memory.write, Memory.cons]; split <;> simp [Memory.below, ha]
  | cons c rest ih =>
    obtain ⟨y, v⟩ := c
    have h' := h
    simp only [Memory.below, List.all_cons, Bool.and_eq_true, decide_eq_true_eq] at h
    unfold Memory.write
    split
    · unfold Memory.cons
      split
      · exact h'
      · simp only [Memory.below, List.all_cons, Bool.and_eq_true, decide_eq_true_eq]
        exact ⟨ha, h.1, h.2⟩
    · split
      · unfold Memory.cons
        split
        · exact h.2
        · simp only [Memory.below, List.all_cons, Bool.and_eq_true, decide_eq_true_eq]
          exact ⟨ha, h.2⟩
      · have := ih h.2
        simp only [Memory.below, List.all_cons, Bool.and_eq_true, decide_eq_true_eq] at this ⊢
        exact ⟨h.1, this⟩

end Sys2Proof.Machine
end

