-- ==== Sys2Proof/Laws/State.lean ====
section
/-! SUPPORT. What each update of State leaves in each field: one lemma per field per update, so that no proof unfolds a
record update. -/

namespace Sys2Proof.Machine

@[simp] theorem State.goto_blk (s : State) (c : StateCode) : (s.goto c).blk = { s.blk with state := c } := rfl
@[simp] theorem State.goto_line (s : State) (c : StateCode) : (s.goto c).line = s.line := rfl
@[simp] theorem State.goto_params (s : State) (c : StateCode) : (s.goto c).params = s.params := rfl
@[simp] theorem State.goto_rst (s : State) (c : StateCode) : (s.goto c).rst = s.rst := rfl
@[simp] theorem State.goto_hostData (s : State) (c : StateCode) : (s.goto c).hostData = s.hostData := rfl
@[simp] theorem State.goto_inputs (s : State) (c : StateCode) : (s.goto c).inputs = s.inputs := rfl
@[simp] theorem State.goto_evIdx (s : State) (c : StateCode) : (s.goto c).evIdx = s.evIdx := rfl

@[simp] theorem State.setIdx_blk (s : State) (v : Word) : (s.setIdx v).blk = { s.blk with idx := v } := rfl
@[simp] theorem State.setIdx_line (s : State) (v : Word) : (s.setIdx v).line = s.line := rfl
@[simp] theorem State.setIdx_params (s : State) (v : Word) : (s.setIdx v).params = s.params := rfl
@[simp] theorem State.setIdx_rst (s : State) (v : Word) : (s.setIdx v).rst = s.rst := rfl
@[simp] theorem State.setIdx_hostData (s : State) (v : Word) : (s.setIdx v).hostData = s.hostData := rfl
@[simp] theorem State.setIdx_inputs (s : State) (v : Word) : (s.setIdx v).inputs = s.inputs := rfl
@[simp] theorem State.setIdx_evIdx (s : State) (v : Word) : (s.setIdx v).evIdx = s.evIdx := rfl

@[simp] theorem State.setResult_blk (s : State) (v : SessionResult) : (s.setResult v).blk = { s.blk with result := v } := rfl
@[simp] theorem State.setResult_line (s : State) (v : SessionResult) : (s.setResult v).line = s.line := rfl
@[simp] theorem State.setResult_params (s : State) (v : SessionResult) : (s.setResult v).params = s.params := rfl
@[simp] theorem State.setResult_rst (s : State) (v : SessionResult) : (s.setResult v).rst = s.rst := rfl
@[simp] theorem State.setResult_hostData (s : State) (v : SessionResult) : (s.setResult v).hostData = s.hostData := rfl
@[simp] theorem State.setResult_inputs (s : State) (v : SessionResult) : (s.setResult v).inputs = s.inputs := rfl
@[simp] theorem State.setResult_evIdx (s : State) (v : SessionResult) : (s.setResult v).evIdx = s.evIdx := rfl

@[simp] theorem State.setBlk_blk (s : State) (b : Block) : (s.setBlk b).blk = b := rfl
@[simp] theorem State.setBlk_line (s : State) (b : Block) : (s.setBlk b).line = s.line := rfl
@[simp] theorem State.setBlk_params (s : State) (b : Block) : (s.setBlk b).params = s.params := rfl
@[simp] theorem State.setBlk_rst (s : State) (b : Block) : (s.setBlk b).rst = s.rst := rfl
@[simp] theorem State.setBlk_hostData (s : State) (b : Block) : (s.setBlk b).hostData = s.hostData := rfl
@[simp] theorem State.setBlk_inputs (s : State) (b : Block) : (s.setBlk b).inputs = s.inputs := rfl
@[simp] theorem State.setBlk_evIdx (s : State) (b : Block) : (s.setBlk b).evIdx = s.evIdx := rfl

@[simp] theorem State.timerStart_blk (s : State) (ms : Nat) : (s.timerStart ms).blk = { s.blk with timer := msToTicks s.params.fClk ms } := rfl
@[simp] theorem State.timerStart_line (s : State) (ms : Nat) : (s.timerStart ms).line = s.line := rfl
@[simp] theorem State.timerStart_params (s : State) (ms : Nat) : (s.timerStart ms).params = s.params := rfl
@[simp] theorem State.timerStart_rst (s : State) (ms : Nat) : (s.timerStart ms).rst = s.rst := rfl
@[simp] theorem State.timerStart_hostData (s : State) (ms : Nat) : (s.timerStart ms).hostData = s.hostData := rfl
@[simp] theorem State.timerStart_inputs (s : State) (ms : Nat) : (s.timerStart ms).inputs = s.inputs := rfl
@[simp] theorem State.timerStart_evIdx (s : State) (ms : Nat) : (s.timerStart ms).evIdx = s.evIdx := rfl

@[simp] theorem State.timerTick_blk (s : State) : (s.timerTick).blk = { s.blk with timer := s.blk.timer - 1 } := rfl
@[simp] theorem State.timerTick_line (s : State) : (s.timerTick).line = s.line := rfl
@[simp] theorem State.timerTick_params (s : State) : (s.timerTick).params = s.params := rfl
@[simp] theorem State.timerTick_rst (s : State) : (s.timerTick).rst = s.rst := rfl
@[simp] theorem State.timerTick_hostData (s : State) : (s.timerTick).hostData = s.hostData := rfl
@[simp] theorem State.timerTick_inputs (s : State) : (s.timerTick).inputs = s.inputs := rfl
@[simp] theorem State.timerTick_evIdx (s : State) : (s.timerTick).evIdx = s.evIdx := rfl

@[simp] theorem State.timerExpire_blk (s : State) : (s.timerExpire).blk = { s.blk with timer := 0 } := rfl
@[simp] theorem State.timerExpire_line (s : State) : (s.timerExpire).line = s.line := rfl
@[simp] theorem State.timerExpire_params (s : State) : (s.timerExpire).params = s.params := rfl
@[simp] theorem State.timerExpire_rst (s : State) : (s.timerExpire).rst = s.rst := rfl
@[simp] theorem State.timerExpire_hostData (s : State) : (s.timerExpire).hostData = s.hostData := rfl
@[simp] theorem State.timerExpire_inputs (s : State) : (s.timerExpire).inputs = s.inputs := rfl
@[simp] theorem State.timerExpire_evIdx (s : State) : (s.timerExpire).evIdx = s.evIdx := rfl

@[simp] theorem State.setLine_blk (s : State) (l : Line) : (s.setLine l).blk = s.blk := rfl
@[simp] theorem State.setLine_line (s : State) (l : Line) : (s.setLine l).line = l := rfl
@[simp] theorem State.setLine_params (s : State) (l : Line) : (s.setLine l).params = s.params := rfl
@[simp] theorem State.setLine_rst (s : State) (l : Line) : (s.setLine l).rst = s.rst := rfl
@[simp] theorem State.setLine_hostData (s : State) (l : Line) : (s.setLine l).hostData = s.hostData := rfl
@[simp] theorem State.setLine_inputs (s : State) (l : Line) : (s.setLine l).inputs = s.inputs := rfl
@[simp] theorem State.setLine_evIdx (s : State) (l : Line) : (s.setLine l).evIdx = s.evIdx := rfl

@[simp] theorem State.setHostData_blk (s : State) (v : Word) : (s.setHostData v).blk = s.blk := rfl
@[simp] theorem State.setHostData_line (s : State) (v : Word) : (s.setHostData v).line = s.line := rfl
@[simp] theorem State.setHostData_params (s : State) (v : Word) : (s.setHostData v).params = s.params := rfl
@[simp] theorem State.setHostData_rst (s : State) (v : Word) : (s.setHostData v).rst = s.rst := rfl
@[simp] theorem State.setHostData_hostData (s : State) (v : Word) : (s.setHostData v).hostData = v := rfl
@[simp] theorem State.setHostData_inputs (s : State) (v : Word) : (s.setHostData v).inputs = s.inputs := rfl
@[simp] theorem State.setHostData_evIdx (s : State) (v : Word) : (s.setHostData v).evIdx = s.evIdx := rfl

@[simp] theorem State.readInto_blk (s : State) (i : Nat) : (s.readInto i).blk = s.blk := rfl
@[simp] theorem State.readInto_line (s : State) (i : Nat) : (s.readInto i).line = s.line := rfl
@[simp] theorem State.readInto_params (s : State) (i : Nat) : (s.readInto i).params = s.params := rfl
@[simp] theorem State.readInto_rst (s : State) (i : Nat) : (s.readInto i).rst = s.rst := rfl
@[simp] theorem State.readInto_hostData (s : State) (i : Nat) : (s.readInto i).hostData = s.blk.readRegister i := rfl
@[simp] theorem State.readInto_inputs (s : State) (i : Nat) : (s.readInto i).inputs = s.inputs := rfl
@[simp] theorem State.readInto_evIdx (s : State) (i : Nat) : (s.readInto i).evIdx = s.evIdx := rfl

@[simp] theorem State.beginAttempt_blk (s : State) : (s.beginAttempt).blk = { s.blk with attempts := s.blk.attempts + 1#32, pulses := BitVec.ofNat 32 (pulseCount s.blk.sessionBaud.toNat), idx := 0#32, state := codePulse } := rfl
@[simp] theorem State.beginAttempt_line (s : State) : (s.beginAttempt).line = s.line := rfl
@[simp] theorem State.beginAttempt_params (s : State) : (s.beginAttempt).params = s.params := rfl
@[simp] theorem State.beginAttempt_rst (s : State) : (s.beginAttempt).rst = s.rst := rfl
@[simp] theorem State.beginAttempt_hostData (s : State) : (s.beginAttempt).hostData = s.hostData := rfl
@[simp] theorem State.beginAttempt_inputs (s : State) : (s.beginAttempt).inputs = s.inputs := rfl
@[simp] theorem State.beginAttempt_evIdx (s : State) : (s.beginAttempt).evIdx = s.evIdx := rfl

@[simp] theorem Line.append_present (l : Line) (es : List RxEntry) : (l.append es).present = l.present := rfl
@[simp] theorem Line.append_cfg (l : Line) (es : List RxEntry) : (l.append es).cfg = l.cfg := rfl
@[simp] theorem Line.append_rxq (l : Line) (es : List RxEntry) : (l.append es).rxq = l.rxq ++ es := rfl
@[simp] theorem Line.append_txlog (l : Line) (es : List RxEntry) : (l.append es).txlog = l.txlog := rfl
@[simp] theorem Line.append_txState (l : Line) (es : List RxEntry) : (l.append es).txState = l.txState := rfl
@[simp] theorem Line.append_txReady (l : Line) (es : List RxEntry) : (l.append es).txReady = l.txReady := rfl
@[simp] theorem Line.append_getOk (l : Line) (es : List RxEntry) : (l.append es).getOk = l.getOk := rfl
@[simp] theorem Line.append_setOk (l : Line) (es : List RxEntry) : (l.append es).setOk = l.setOk := rfl
@[simp] theorem Line.append_onWire (l : Line) (es : List RxEntry) : (l.append es).onWire = l.onWire := rfl
@[simp] theorem Line.append_reqlog (l : Line) (es : List RxEntry) : (l.append es).reqlog = l.reqlog := rfl

@[simp] theorem Line.record_present (l : Line) (r : LineReq) : (l.record r).present = l.present := rfl
@[simp] theorem Line.record_cfg (l : Line) (r : LineReq) : (l.record r).cfg = l.cfg := rfl
@[simp] theorem Line.record_rxq (l : Line) (r : LineReq) : (l.record r).rxq = l.rxq := rfl
@[simp] theorem Line.record_txlog (l : Line) (r : LineReq) : (l.record r).txlog = l.txlog := rfl
@[simp] theorem Line.record_txState (l : Line) (r : LineReq) : (l.record r).txState = l.txState := rfl
@[simp] theorem Line.record_txReady (l : Line) (r : LineReq) : (l.record r).txReady = l.txReady := rfl
@[simp] theorem Line.record_getOk (l : Line) (r : LineReq) : (l.record r).getOk = l.getOk := rfl
@[simp] theorem Line.record_setOk (l : Line) (r : LineReq) : (l.record r).setOk = l.setOk := rfl
@[simp] theorem Line.record_onWire (l : Line) (r : LineReq) : (l.record r).onWire = l.onWire := rfl
@[simp] theorem Line.record_reqlog (l : Line) (r : LineReq) : (l.record r).reqlog = l.reqlog ++ [r] := rfl

@[simp] theorem Line.requestClose_present (l : Line) : l.requestClose.present = l.present := rfl
@[simp] theorem Line.requestClose_cfg (l : Line) : l.requestClose.cfg = l.cfg := rfl
@[simp] theorem Line.requestClose_rxq (l : Line) : l.requestClose.rxq = l.rxq := rfl
@[simp] theorem Line.requestClose_txlog (l : Line) : l.requestClose.txlog = l.txlog := rfl
@[simp] theorem Line.requestClose_txState (l : Line) : l.requestClose.txState = l.txState := rfl
@[simp] theorem Line.requestClose_txReady (l : Line) : l.requestClose.txReady = l.txReady := rfl
@[simp] theorem Line.requestClose_getOk (l : Line) : l.requestClose.getOk = l.getOk := rfl
@[simp] theorem Line.requestClose_setOk (l : Line) : l.requestClose.setOk = l.setOk := rfl
@[simp] theorem Line.requestClose_onWire (l : Line) : l.requestClose.onWire = l.onWire := rfl
@[simp] theorem Line.requestClose_reqlog (l : Line) : l.requestClose.reqlog = l.reqlog ++ [.close] := rfl

/-- Taking an event off the schedule touches only the schedule. -/
@[simp] theorem State.popEvent_blk (s : State) : s.popEvent.blk = s.blk := by
  unfold State.popEvent; split <;> rfl
@[simp] theorem State.popEvent_line (s : State) : s.popEvent.line = s.line := by
  unfold State.popEvent; split <;> rfl
@[simp] theorem State.popEvent_params (s : State) : s.popEvent.params = s.params := by
  unfold State.popEvent; split <;> rfl
@[simp] theorem State.popEvent_rst (s : State) : s.popEvent.rst = s.rst := by
  unfold State.popEvent; split <;> rfl
@[simp] theorem State.popEvent_hostData (s : State) : s.popEvent.hostData = s.hostData := by
  unfold State.popEvent; split <;> rfl

theorem State.popEvent_cons (s : State) (e : Event) (es : List Event) (h : s.inputs = e :: es) :
    s.popEvent = { s with inputs := es } := by
  simp [State.popEvent, h]

theorem State.nextEvent_cons (s : State) (e : Event) (es : List Event) (h : s.inputs = e :: es) :
    s.nextEvent = e := by
  simp [State.nextEvent, h]

/-- A step with an event on the schedule performs that event. -/
theorem step_cons (s : State) (e : Event) (es : List Event) (h : s.inputs = e :: es) :
    step s = State.perform { s with inputs := es } e := by
  unfold step
  rw [State.popEvent_cons s e es h, State.nextEvent_cons s e es h]

end Sys2Proof.Machine
end

