-- ==== Sys2Proof/Laws/Ops.lean ====
section
/-! SUPPORT. One lemma per shared operation that says what it can do, which the proofs cite instead of unfolding it. -/

namespace Sys2Proof.Machine

/-! ## LINE's primitives -/

/-- All that TxByte can do (41_byte_channel R130). -/
theorem Line.txByte_cases (l : Line) (b : Byte) :
    (l.txState = .ok ∧ l.txReady = true ∧ l.txByte b = (.accepted, { l with txlog := l.txlog ++ [b] })) ∨
    (l.txState = .ok ∧ l.txReady = false ∧ l.txByte b = (.stall, l)) ∨
    (l.txState = .error ∧ l.txByte b = (.error, l)) ∨
    (l.txState = .closed ∧ l.txByte b = (.closed, l)) := by
  unfold Line.txByte
  cases l.txState <;> cases l.txReady <;> simp

/-- All that RxByte can do (41_byte_channel R131). -/
theorem Line.rxByte_cases (l : Line) :
    (l.rxq = [] ∧ l.rxByte = (.stall, l)) ∨
    (∃ b rest, l.rxq = .byte b :: rest ∧ l.rxByte = (.byte b, { l with rxq := rest })) ∨
    (∃ rest, l.rxq = .error :: rest ∧ l.rxByte = (.error, { l with rxq := rest })) ∨
    (∃ rest, l.rxq = .closed :: rest ∧ l.rxByte = (.closed, { l with rxq := rest })) := by
  unfold Line.rxByte
  cases h : l.rxq with
  | nil => exact .inl ⟨rfl, rfl⟩
  | cons e rest =>
    cases e with
    | byte b => exact .inr (.inl ⟨b, rest, rfl, rfl⟩)
    | error => exact .inr (.inr (.inl ⟨rest, rfl, rfl⟩))
    | closed => exact .inr (.inr (.inr ⟨rest, rfl, rfl⟩))

@[simp] theorem countBytes_nil : countBytes [] = 0 := rfl
@[simp] theorem countBytes_byte (b : Byte) (q : List RxEntry) : countBytes (.byte b :: q) = countBytes q + 1 := rfl
@[simp] theorem countBytes_error (q : List RxEntry) : countBytes (.error :: q) = 0 := rfl
@[simp] theorem countBytes_closed (q : List RxEntry) : countBytes (.closed :: q) = 0 := rfl

/-- Arrivals never lower the count. -/
theorem countBytes_append_le (q es : List RxEntry) : countBytes q ≤ countBytes (q ++ es) := by
  induction q with
  | nil => exact Nat.zero_le _
  | cons e rest ih => cases e <;> simp [ih]

/-- Queued bytes all count. -/
theorem countBytes_rxBytes (bs : List Byte) (q : List RxEntry) :
    countBytes (rxBytes bs ++ q) = bs.length + countBytes q := by
  induction bs with
  | nil => simp [rxBytes]
  | cons b rest ih =>
    simp only [rxBytes, List.map_cons, List.cons_append, countBytes_byte, List.length_cons] at ih ⊢
    omega

/-- LineCfgSet: on OK the configuration is installed, on FAIL only the request is recorded (40_line_transport R115). -/
theorem Line.requestCfgSet_cases (p : Params) (l : Line) (c : LineCfg) :
    (l.cfgSetOk p c = true ∧ l.requestCfgSet p c = (true, { l with cfg := c }.record (.cfgSet c true))) ∨
    (l.cfgSetOk p c = false ∧ l.requestCfgSet p c = (false, l.record (.cfgSet c false))) := by
  unfold Line.requestCfgSet
  cases l.cfgSetOk p c <;> simp

/-- LineCfgGet: OK with LINE's configuration, or FAIL. -/
theorem Line.requestCfgGet_cases (l : Line) :
    (l.getOk = true ∧ l.requestCfgGet = (some l.cfg, l.record (.cfgGet true))) ∨
    (l.getOk = false ∧ l.requestCfgGet = (none, l.record (.cfgGet false))) := by
  unfold Line.requestCfgGet
  cases l.getOk <;> simp

/-! ## Fault entry -/

/-- The block's registers after fault entry (60_exceptions R241). -/
theorem State.raiseFault_blk (s : State) (cause : Cause) (data : BitVec 16) :
    (s.raiseFault cause data).blk =
      { s.blk with
        result := .fault
        faultCause := cause
        faultInfo := faultInfoWord s.blk.state data
        lineHeld := s.blk.cfgSavedValid && s.blk.lineHeld
        state := if s.blk.cfgSavedValid then codeRestore else codeDone } := by
  unfold State.raiseFault
  cases h1 : s.blk.cfgSavedValid <;> cases h2 : s.blk.lineHeld <;> simp [h1, h2]

/-- LINE after fault entry: closed when the block held it and owes no restore, otherwise untouched. -/
theorem State.raiseFault_line (s : State) (cause : Cause) (data : BitVec 16) :
    (s.raiseFault cause data).line =
      if !s.blk.cfgSavedValid && s.blk.lineHeld then s.line.requestClose else s.line := by
  unfold State.raiseFault
  cases h1 : s.blk.cfgSavedValid <;> cases h2 : s.blk.lineHeld <;> simp [h1, h2]

@[simp] theorem State.raiseFault_params (s : State) (c : Cause) (d : BitVec 16) : (s.raiseFault c d).params = s.params := by
  unfold State.raiseFault; dsimp only; split <;> (try split) <;> rfl
@[simp] theorem State.raiseFault_rst (s : State) (c : Cause) (d : BitVec 16) : (s.raiseFault c d).rst = s.rst := by
  unfold State.raiseFault; dsimp only; split <;> (try split) <;> rfl
@[simp] theorem State.raiseFault_hostData (s : State) (c : Cause) (d : BitVec 16) :
    (s.raiseFault c d).hostData = s.hostData := by
  unfold State.raiseFault; dsimp only; split <;> (try split) <;> rfl
@[simp] theorem State.raiseFault_inputs (s : State) (c : Cause) (d : BitVec 16) : (s.raiseFault c d).inputs = s.inputs := by
  unfold State.raiseFault; dsimp only; split <;> (try split) <;> rfl
@[simp] theorem State.raiseFault_evIdx (s : State) (c : Cause) (d : BitVec 16) : (s.raiseFault c d).evIdx = s.evIdx := by
  unfold State.raiseFault; dsimp only; split <;> (try split) <;> rfl

/-! ## The transfer templates -/

/-- All that one transmit step can do where it answers a next state (41_byte_channel R133). -/
theorem txTransfer_next {n : Nat} {frame : Nat → Option Byte} {done : State → State} {s s' : State}
    (h : txTransfer n frame done s = .next s') :
    (s.blk.idx.toNat = n ∧ s' = done s) ∨
    (s.blk.idx.toNat ≠ n ∧ ∃ b, frame s.blk.idx.toNat = some b ∧ s.line.txState = .ok ∧ s.line.txReady = true ∧
      s' = (s.setLine { s.line with txlog := s.line.txlog ++ [b] }).setIdx (s.blk.idx + 1#32)) ∨
    (s.blk.idx.toNat ≠ n ∧ s.line.txState = .ok ∧ s.line.txReady = false ∧ s' = s) ∨
    (s.blk.idx.toNat ≠ n ∧ s.line.txState = .error ∧ s' = s.raiseFault .txIo (s.blk.idx.setWidth 16)) ∨
    (s.blk.idx.toNat ≠ n ∧ s.line.txState = .closed ∧ s' = s.raiseFault .txClosed (s.blk.idx.setWidth 16)) := by
  unfold txTransfer at h
  split at h
  · rename_i hn
    exact .inl ⟨hn, by simpa using h.symm⟩
  · rename_i hn
    split at h
    · cases h
    · rename_i b hb
      rcases s.line.txByte_cases b with ⟨h1, h2, h3⟩ | ⟨h1, h2, h3⟩ | ⟨h1, h3⟩ | ⟨h1, h3⟩ <;> rw [h3] at h
      · exact .inr (.inl ⟨hn, b, hb, h1, h2, by simpa using h.symm⟩)
      · exact .inr (.inr (.inl ⟨hn, h1, h2, by simpa using h.symm⟩))
      · exact .inr (.inr (.inr (.inl ⟨hn, h1, by simpa [State.setLine] using h.symm⟩)))
      · exact .inr (.inr (.inr (.inr ⟨hn, h1, by simpa [State.setLine] using h.symm⟩)))

/-- A transmit step stops only where the frame has no byte at IDX, and never refuses. -/
theorem txTransfer_stop {n : Nat} {frame : Nat → Option Byte} {done : State → State} {s : State} :
    (∃ s', txTransfer n frame done s = .next s') ∨
    (s.blk.idx.toNat ≠ n ∧ frame s.blk.idx.toNat = none ∧ txTransfer n frame done s = .fault .transferIndex) := by
  unfold txTransfer
  split
  · exact .inl ⟨_, rfl⟩
  · rename_i hn
    cases hf : frame s.blk.idx.toNat with
    | none => exact .inr ⟨hn, rfl, rfl⟩
    | some b =>
      rcases s.line.txByte_cases b with ⟨_, _, h⟩ | ⟨_, _, h⟩ | ⟨_, h⟩ | ⟨_, h⟩ <;> exact .inl (by simp [h])

/-- All that one receive step can do where it answers a next state (41_byte_channel R134). -/
theorem rxTransfer_next {n : Nat} {put : Nat → Byte → Block → Except Fault Block} {done : State → State} {s s' : State}
    (h : rxTransfer n put done s = .next s') :
    (s.blk.idx.toNat = n ∧ s' = done s) ∨
    (s.blk.idx.toNat ≠ n ∧ ∃ b rest blk, s.line.rxq = .byte b :: rest ∧ put s.blk.idx.toNat b s.blk = .ok blk ∧
      s' = ((s.setBlk blk).setLine { s.line with rxq := rest }).setIdx (s.blk.idx + 1#32)) ∨
    (s.blk.idx.toNat ≠ n ∧ s.line.rxq = [] ∧ s' = s) ∨
    (s.blk.idx.toNat ≠ n ∧ ∃ rest, s.line.rxq = .error :: rest ∧
      s' = (s.setLine { s.line with rxq := rest }).raiseFault .rxIo (s.blk.idx.setWidth 16)) ∨
    (s.blk.idx.toNat ≠ n ∧ ∃ rest, s.line.rxq = .closed :: rest ∧
      s' = (s.setLine { s.line with rxq := rest }).raiseFault .rxClosed (s.blk.idx.setWidth 16)) := by
  unfold rxTransfer at h
  split at h
  · rename_i hn
    exact .inl ⟨hn, by simpa using h.symm⟩
  · rename_i hn
    rcases s.line.rxByte_cases with ⟨h1, h2⟩ | ⟨b, rest, h1, h2⟩ | ⟨rest, h1, h2⟩ | ⟨rest, h1, h2⟩ <;> rw [h2] at h
    · exact .inr (.inr (.inl ⟨hn, h1, by simpa using h.symm⟩))
    · dsimp only at h
      split at h
      · rename_i blk hb
        exact .inr (.inl ⟨hn, b, rest, blk, h1, hb, by simpa using h.symm⟩)
      · cases h
    · exact .inr (.inr (.inr (.inl ⟨hn, rest, h1, by simpa using h.symm⟩)))
    · exact .inr (.inr (.inr (.inr ⟨hn, rest, h1, by simpa using h.symm⟩)))

/-- A receive step stops only where the byte cannot be put, and never refuses. -/
theorem rxTransfer_stop {n : Nat} {put : Nat → Byte → Block → Except Fault Block} {done : State → State} {s : State} :
    (∃ s', rxTransfer n put done s = .next s') ∨
    (s.blk.idx.toNat ≠ n ∧ ∃ b f, put s.blk.idx.toNat b s.blk = .error f ∧ rxTransfer n put done s = .fault f) := by
  unfold rxTransfer
  split
  · exact .inl ⟨_, rfl⟩
  · rename_i hn
    rcases s.line.rxByte_cases with ⟨_, h⟩ | ⟨b, rest, _, h⟩ | ⟨rest, _, h⟩ | ⟨rest, _, h⟩ <;> rw [h]
    · exact .inl ⟨_, rfl⟩
    · cases hp : put s.blk.idx.toNat b s.blk with
      | ok blk => exact .inl (by simp [hp])
      | error f => exact .inr ⟨hn, b, f, hp, by simp [hp]⟩
    · exact .inl ⟨_, rfl⟩
    · exact .inl ⟨_, rfl⟩

/-- All that `read_one` against an expected byte can do; it always answers a next state (42_sync_negotiator R156, R157). -/
theorem readExpected_cases (want : Byte) (m : BitVec 16) (hit : State → State) (s : State) :
    (s.line.rxq = [] ∧ readExpected want m hit s = .next s) ∨
    (∃ rest, s.line.rxq = .byte want :: rest ∧
      readExpected want m hit s = .next (hit (s.setLine { s.line with rxq := rest }))) ∨
    (∃ b rest, b ≠ want ∧ s.line.rxq = .byte b :: rest ∧
      readExpected want m hit s = .next ((s.setLine { s.line with rxq := rest }).goto codeFailchk)) ∨
    (∃ rest, s.line.rxq = .error :: rest ∧
      readExpected want m hit s = .next ((s.setLine { s.line with rxq := rest }).raiseFault .rxIo m)) ∨
    (∃ rest, s.line.rxq = .closed :: rest ∧
      readExpected want m hit s = .next ((s.setLine { s.line with rxq := rest }).raiseFault .rxClosed m)) := by
  unfold readExpected
  rcases s.line.rxByte_cases with ⟨h1, h2⟩ | ⟨b, rest, h1, h2⟩ | ⟨rest, h1, h2⟩ | ⟨rest, h1, h2⟩ <;> rw [h2]
  · exact .inl ⟨h1, rfl⟩
  · by_cases hb : b = want
    · subst hb
      exact .inr (.inl ⟨rest, h1, by simp⟩)
    · exact .inr (.inr (.inl ⟨b, rest, hb, h1, by simp [hb]⟩))
  · exact .inr (.inr (.inr (.inl ⟨rest, h1, rfl⟩)))
  · exact .inr (.inr (.inr (.inr ⟨rest, h1, rfl⟩)))

/-- What every transmit step with no final action keeps, sending a frame keeps. -/
theorem sendFrame_keeps {frame : Nat → Option Byte} {n : Nat} {P : State → Prop}
    (hstep : ∀ s s', P s → s.blk.idx.toNat ≠ n → txTransfer n frame id s = .next s' → P s') :
    ∀ (fuel : Nat) (s s' : State), P s → sendFrame frame n fuel s = .next s' → P s' := by
  intro fuel
  induction fuel with
  | zero => intro s s' hs h; cases h; exact hs
  | succ k ih =>
    intro s s' hs h
    unfold sendFrame at h
    split at h
    · cases h; exact hs
    · rename_i hn
      split at h
      · rename_i t ht
        have hP := hstep s t hs hn ht
        split at h
        · cases h; exact hP
        · exact ih t s' hP h
      · cases h
      · cases h

/-- Sending a frame stops only as a transmit step of it stops. -/
theorem sendFrame_stop {frame : Nat → Option Byte} {n : Nat} {P : State → Prop}
    (hstep : ∀ s s', P s → s.blk.idx.toNat ≠ n → txTransfer n frame id s = .next s' → s'.blk.idx ≠ s.blk.idx → P s')
    (hsome : ∀ s, P s → s.blk.idx.toNat ≠ n → frame s.blk.idx.toNat ≠ none) :
    ∀ (fuel : Nat) (s : State), P s → ∃ s', sendFrame frame n fuel s = .next s' := by
  intro fuel
  induction fuel with
  | zero => intro s _; exact ⟨s, rfl⟩
  | succ k ih =>
    intro s hs
    unfold sendFrame
    split
    · exact ⟨s, rfl⟩
    · rename_i hn
      rcases txTransfer_stop (n := n) (frame := frame) (done := id) (s := s) with ⟨t, ht⟩ | ⟨_, hnone, _⟩
      · rw [ht]
        dsimp only
        split
        · exact ⟨t, rfl⟩
        · rename_i hne
          exact ih t (hstep s t hs hn ht hne)
      · exact absurd hnone (hsome s hs hn)

/-! ## Restore, HOST commands, reset, LINE's own steps -/

/-- S_RESTORE's action (40_line_transport R114): the block's registers, by LINE's answer and the outcome so far. -/
theorem State.restoreAndClose_cases (s : State) :
    (s.line.cfgSetOk s.params s.blk.cfgSaved = true ∧
      s.restoreAndClose = { s with
        blk := { s.blk with cfgSavedValid := false, lineHeld := false, state := codeDone }
        line := ({ s.line with cfg := s.blk.cfgSaved }.record (.cfgSet s.blk.cfgSaved true)).requestClose }) ∨
    (s.line.cfgSetOk s.params s.blk.cfgSaved = false ∧ s.blk.result = .fault ∧
      s.restoreAndClose = { s with
        blk := { s.blk with cfgSavedValid := false, lineHeld := false, state := codeDone, restoreFail := true }
        line := (s.line.record (.cfgSet s.blk.cfgSaved false)).requestClose }) ∨
    (s.line.cfgSetOk s.params s.blk.cfgSaved = false ∧ s.blk.result ≠ .fault ∧
      s.restoreAndClose = { s with
        blk := { s.blk with
          cfgSavedValid := false, lineHeld := false, state := codeDone, restoreFail := true
          result := .fault, faultCause := .cfgRestore, faultInfo := faultInfoWord codeRestore 0#16 }
        line := (s.line.record (.cfgSet s.blk.cfgSaved false)).requestClose }) := by
  unfold State.restoreAndClose
  rcases s.line.requestCfgSet_cases s.params s.blk.cfgSaved with ⟨h1, h2⟩ | ⟨h1, h2⟩ <;> rw [h2]
  · exact .inl ⟨h1, by simp⟩
  · by_cases hr : s.blk.result = .fault
    · exact .inr (.inl ⟨h1, hr, by simp [hr]⟩)
    · exact .inr (.inr ⟨h1, hr, by simp [hr]⟩)

/-- The registers START clears and latches before it decides (44_host_interface R201). -/
def sessionCleared (b : Block) : Block :=
  { b with
    sessionBaud := b.baud, cancelFlag := false, attempts := 0#32, pulses := 0#32, idx := 0#32, synced := false
    result := .none, faultCause := .none, faultInfo := 0#32, restoreFail := false, ackb := 0#16, lenb := 0#8
    infoLen := 0#16, payCount := 0#16, lineHeld := false, cfgSavedValid := false }

/-- START (44_host_interface R201): ignored while busy; a session, or USAGE at once. -/
theorem State.hostStart_cases (s : State) :
    (s.blk.busy = true ∧ s.hostStart = s) ∨
    (s.blk.busy = false ∧ s.blk.baud ≠ 0#32 ∧
      s.hostStart = { s with blk := { sessionCleared s.blk with state := codeOpen } }) ∨
    (s.blk.busy = false ∧ s.blk.baud = 0#32 ∧
      s.hostStart = { s with blk := { sessionCleared s.blk with
        result := .fault, faultCause := .usage, faultInfo := faultInfoWord s.blk.state 0#16, state := codeDone } }) := by
  unfold State.hostStart
  cases hb : s.blk.busy
  · by_cases h0 : s.blk.baud = 0#32
    · exact .inr (.inr ⟨rfl, h0, by simp [h0, State.raiseFault, sessionCleared]⟩)
    · exact .inr (.inl ⟨rfl, h0, by simp [h0, State.goto, sessionCleared]⟩)
  · exact .inl ⟨rfl, by simp⟩

/-- CANCEL (44_host_interface R202): sets the flag while busy, and is ignored otherwise. -/
theorem State.hostCancel_cases (s : State) :
    (s.blk.busy = true ∧ s.hostCancel = { s with blk := { s.blk with cancelFlag := true } }) ∨
    (s.blk.busy = false ∧ s.hostCancel = s) := by
  unfold State.hostCancel
  cases s.blk.busy <;> simp

/-- LINE's own steps remove nothing from rxq (10_state R42). -/
theorem Line.own_rxq (p : Params) (held : Bool) (l : Line) (e : LineEvent) :
    ∃ es, (l.own p held e).rxq = l.rxq ++ es := by
  unfold Line.own
  cases e <;> dsimp only <;> (try split) <;> first
    | exact ⟨_, Line.append_rxq _ _⟩
    | exact ⟨[], by simp⟩

/-- LINE's own steps do not touch txlog (10_state R43). -/
theorem Line.own_txlog (p : Params) (held : Bool) (l : Line) (e : LineEvent) :
    (l.own p held e).txlog = l.txlog := by
  unfold Line.own
  cases e <;> dsimp only <;> (try split) <;> rfl

/-- LINE's own steps keep the wire behind the accepted bytes (10_state R43). -/
theorem Line.own_onWire (p : Params) (held : Bool) (l : Line) (e : LineEvent) (h : l.onWire ≤ l.txlog.length) :
    (l.own p held e).onWire ≤ (l.own p held e).txlog.length := by
  rw [Line.own_txlog]
  unfold Line.own
  cases e <;> dsimp only <;> (try split) <;> first | exact h | (dsimp only; omega)

end Sys2Proof.Machine
end

