-- ==== Sys2Proof/Laws/PerInstr.lean ====
section
/-! SUPPORT. Per instruction: the encoded form of a well-formed instruction matches that instruction's own row of
spec/opcode_table.json, in the row's format, under the row's mask. -/

namespace Sys2Proof.Laws.MatchesRow

/-- A form matches row `n` of the format host_txn50. -/
def hostHit (n : Nat) (x : Encoded) : Bool :=
  match x, hostTable[n]? with
  | .host 32 w, some r => r.hit w
  | _, _ => false

/-- A byte sequence matches a wire row: as many bytes as the row or more, each equal under the mask. -/
def bytesHit : List Byte → List Byte → List Byte → Bool
  | p :: ps, m :: ms, b :: bs => (b &&& m == p) && bytesHit ps ms bs
  | [], [], _ => true
  | _, _, _ => false

/-- A form matches a wire row. -/
def wireHit (pattern mask : List Byte) (x : Encoded) : Bool :=
  match x with
  | .wireOut bs => bytesHit pattern mask bs
  | .syncIn bs => bytesHit pattern mask bs
  | .infoIn bs => bytesHit pattern mask bs
  | _ => false

/-- A form matches a state-code row. -/
def seqHit (pattern mask : StateCode) (x : Encoded) : Bool :=
  match x with
  | .seq code => code &&& mask == pattern
  | _ => false

/-- Whether a form matches the instruction's row, with the row's match and mask as spec/opcode_table.json has them. -/
def rowHit (i : Instr) (x : Encoded) : Bool :=
  match i with
  | .start _ => hostHit 0 x
  | .cancel _ => hostHit 1 x
  | .ctrlNop _ => hostHit 2 x
  | .baudWr _ => hostHit 3 x
  | .statusWr _ => hostHit 4 x
  | .attemptsWr _ => hostHit 5 x
  | .pulsesWr _ => hostHit 6 x
  | .infoLenWr _ => hostHit 7 x
  | .faultInfoWr _ => hostHit 8 x
  | .payCountWr _ => hostHit 9 x
  | .payWr _ _ => hostHit 10 x
  | .ctrlRd _ => hostHit 11 x
  | .baudRd _ => hostHit 12 x
  | .statusRd _ => hostHit 13 x
  | .attemptsRd _ => hostHit 14 x
  | .pulsesRd _ => hostHit 15 x
  | .infoLenRd _ => hostHit 16 x
  | .faultInfoRd _ => hostHit 17 x
  | .payCountRd _ => hostHit 18 x
  | .payRd _ _ => hostHit 19 x
  | .rsvdWr _ _ => hostHit 20 x
  | .rsvdRd _ _ => hostHit 21 x
  | .misalignedB0 _ _ _ => hostHit 22 x
  | .misalignedB1 _ _ _ => hostHit 23 x
  | .cancelIn => x == .pin 1#1
  | .pulse => wireHit [0x55#8] [0xFF#8] x
  | .handshake => wireHit [0x50#8, 0x00#8, 0x08#8, 0x00#8, 0x38#8, 0xF0#8, 0x00#8, 0x20#8, 0x00#8, 0x00#8, 0x00#8, 0x18#8] [0xFF#8, 0xFF#8, 0xFF#8, 0xFF#8, 0xFF#8, 0xFF#8, 0xFF#8, 0xFF#8, 0xFF#8, 0xFF#8, 0xFF#8, 0xFF#8] x
  | .infoCmd => wireHit [0x10#8, 0x00#8, 0x00#8, 0x00#8] [0xFF#8, 0xFF#8, 0xFF#8, 0xFF#8] x
  | .syncAck _ _ _ => wireHit [0x4F#8, 0x4B#8, 0x00#8, 0x00#8, 0x00#8] [0xFF#8, 0xFF#8, 0x00#8, 0x00#8, 0x00#8] x
  | .infoResp _ _ => wireHit [0x4F#8, 0x4B#8, 0x00#8, 0x00#8] [0xFF#8, 0xFF#8, 0x00#8, 0x00#8] x
  | .sIdle => seqHit 0x00#5 0x1F#5 x
  | .sOpen => seqHit 0x01#5 0x1F#5 x
  | .sGetcfg => seqHit 0x02#5 0x1F#5 x
  | .sSetcfg => seqHit 0x03#5 0x1F#5 x
  | .sPulse => seqHit 0x04#5 0x1F#5 x
  | .sSettle => seqHit 0x05#5 0x1F#5 x
  | .sHshake => seqHit 0x06#5 0x1F#5 x
  | .sProbe => seqHit 0x07#5 0x1F#5 x
  | .sAckO => seqHit 0x08#5 0x1F#5 x
  | .sAckK => seqHit 0x09#5 0x1F#5 x
  | .sDrain => seqHit 0x0A#5 0x1F#5 x
  | .sFailchk => seqHit 0x0B#5 0x1F#5 x
  | .sBackoff => seqHit 0x0C#5 0x1F#5 x
  | .sInfoTx => seqHit 0x0D#5 0x1F#5 x
  | .sInfoAck => seqHit 0x0E#5 0x1F#5 x
  | .sInfoLen => seqHit 0x0F#5 0x1F#5 x
  | .sInfoPay => seqHit 0x10#5 0x1F#5 x
  | .sRestore => seqHit 0x11#5 0x1F#5 x
  | .sDone => seqHit 0x12#5 0x1F#5 x
  | .reservedState13 => seqHit 0x13#5 0x1F#5 x
  | .reservedState14 _ => seqHit 0x14#5 0x1C#5 x
  | .reservedState18 _ => seqHit 0x18#5 0x18#5 x

/-- The encoded form of a well-formed instruction matches its row. -/
def Statement (i : Instr) : Prop := i.wellFormed = true → rowHit i (encode i) = true

/-- A host row is hit when its fields are. -/
theorem hostHit_of {n : Nat} {we mwe pwe : BitVec 1} {off moff poff : Offset} {data mdata pdata : Word}
    (hrow : hostTable[n]? = some ⟨txnWord pwe poff pdata, txnWord mwe moff mdata⟩)
    (hwe : we &&& mwe = pwe) (hoff : off &&& moff = poff) (hdata : data &&& mdata = pdata) :
    hostHit n (.host 32 (txnWord we off data)) = true := by
  simp only [hostHit, hrow]
  exact (hit_txnWord ..).2 ⟨hwe, hoff, hdata⟩

theorem and_one_of_bit {data : Word} (h : data.getLsbD 0 = true) : data &&& 1#32 = 1#32 := by
  apply BitVec.eq_of_getLsbD_eq
  intro i hi
  rw [BitVec.getLsbD_and, BitVec.getLsbD_one]
  by_cases h0 : i = 0
  · subst h0; simp [h]
  · simp [h0]

theorem and_two_of_bit {data : Word} (h : data.getLsbD 1 = true) : data &&& 2#32 = 2#32 := by
  apply BitVec.eq_of_getLsbD_eq
  intro i hi
  rw [BitVec.getLsbD_and]
  have h2 : (2#32).getLsbD i = decide (i = 1) := by
    revert hi; revert i; decide
  by_cases h1 : i = 1
  · subst h1; simp [h]
  · simp [h1, h2]

theorem and_three_of_bits {data : Word} (h0 : data.getLsbD 0 = false) (h1 : data.getLsbD 1 = false) :
    data &&& 3#32 = 0#32 := by
  apply BitVec.eq_of_getLsbD_eq
  intro i hi
  rw [BitVec.getLsbD_and]
  have h3 : (3#32).getLsbD i = (decide (i = 0) || decide (i = 1)) := by
    revert hi; revert i; decide
  by_cases e0 : i = 0
  · subst e0; rw [h0]; simp
  · by_cases e1 : i = 1
    · subst e1; rw [h1]; simp
    · simp [h3, e0, e1]

theorem and_zero_data (data : Word) : data &&& 0#32 = 0#32 := BitVec.and_zero

/-- The page and the two alignment bits of an aligned offset. -/
theorem wordOffset_mask (page : BitVec 1) (idx : BitVec 14) :
    wordOffset page idx &&& 0x10003#17 = wordOffset page 0#14 := by
  have h : (0x10003#17 : Offset) = 1#1 ++ 0#14 ++ 3#2 := by decide
  rw [h, wordOffset, wordOffset, BitVec.and_append, BitVec.and_append]
  simp only [BitVec.and_zero]
  revert page; decide

theorem odd_mask (hi : BitVec 16) : (hi ++ 1#1 : Offset) &&& 1#17 = 1#17 := by
  have h : (1#17 : Offset) = 0#16 ++ 1#1 := by decide
  rw [h, BitVec.and_append]; simp

theorem two_mask (hi : BitVec 15) : (hi ++ 2#2 : Offset) &&& 2#17 = 2#17 := by
  have h : (2#17 : Offset) = 0#15 ++ 2#2 := by decide
  rw [h, BitVec.and_append]; simp

theorem and_zero_we (we : BitVec 1) : we &&& 0#1 = 0#1 := BitVec.and_zero

theorem start (data : Word) : Statement (.start data) := by
  intro h
  show hostHit 0 (.host 32 (txnWord _ _ _)) = true
  refine hostHit_of (pwe := 1#1) (poff := 0#17) (pdata := 1#32) (mwe := 1#1) (moff := 131071#17) (mdata := 1#32) ?_ ?_ ?_ ?_
  · decide
  · decide
  · decide
  · exact and_one_of_bit h

theorem cancel (data : Word) : Statement (.cancel data) := by
  intro h
  show hostHit 1 (.host 32 (txnWord _ _ _)) = true
  refine hostHit_of (pwe := 1#1) (poff := 0#17) (pdata := 2#32) (mwe := 1#1) (moff := 131071#17) (mdata := 2#32) ?_ ?_ ?_ ?_
  · decide
  · decide
  · decide
  · exact and_two_of_bit (by simp [Instr.wellFormed] at h; exact h.2)

theorem ctrlNop (data : Word) : Statement (.ctrlNop data) := by
  intro h
  show hostHit 2 (.host 32 (txnWord _ _ _)) = true
  refine hostHit_of (pwe := 1#1) (poff := 0#17) (pdata := 0#32) (mwe := 1#1) (moff := 131071#17) (mdata := 3#32) ?_ ?_ ?_ ?_
  · decide
  · decide
  · decide
  · exact and_three_of_bits (by simp [Instr.wellFormed] at h; exact h.1) (by simp [Instr.wellFormed] at h; exact h.2)

theorem baudWr (data : Word) : Statement (.baudWr data) := by
  intro _
  show hostHit 3 (.host 32 (txnWord _ _ _)) = true
  refine hostHit_of (pwe := 1#1) (poff := 4#17) (pdata := 0#32) (mwe := 1#1) (moff := 131071#17) (mdata := 0#32) ?_ ?_ ?_ ?_
  · decide
  · decide
  · decide
  · exact and_zero_data _

theorem statusWr (data : Word) : Statement (.statusWr data) := by
  intro _
  show hostHit 4 (.host 32 (txnWord _ _ _)) = true
  refine hostHit_of (pwe := 1#1) (poff := 8#17) (pdata := 0#32) (mwe := 1#1) (moff := 131071#17) (mdata := 0#32) ?_ ?_ ?_ ?_
  · decide
  · decide
  · decide
  · exact and_zero_data _

theorem attemptsWr (data : Word) : Statement (.attemptsWr data) := by
  intro _
  show hostHit 5 (.host 32 (txnWord _ _ _)) = true
  refine hostHit_of (pwe := 1#1) (poff := 12#17) (pdata := 0#32) (mwe := 1#1) (moff := 131071#17) (mdata := 0#32) ?_ ?_ ?_ ?_
  · decide
  · decide
  · decide
  · exact and_zero_data _

theorem pulsesWr (data : Word) : Statement (.pulsesWr data) := by
  intro _
  show hostHit 6 (.host 32 (txnWord _ _ _)) = true
  refine hostHit_of (pwe := 1#1) (poff := 16#17) (pdata := 0#32) (mwe := 1#1) (moff := 131071#17) (mdata := 0#32) ?_ ?_ ?_ ?_
  · decide
  · decide
  · decide
  · exact and_zero_data _

theorem infoLenWr (data : Word) : Statement (.infoLenWr data) := by
  intro _
  show hostHit 7 (.host 32 (txnWord _ _ _)) = true
  refine hostHit_of (pwe := 1#1) (poff := 20#17) (pdata := 0#32) (mwe := 1#1) (moff := 131071#17) (mdata := 0#32) ?_ ?_ ?_ ?_
  · decide
  · decide
  · decide
  · exact and_zero_data _

theorem faultInfoWr (data : Word) : Statement (.faultInfoWr data) := by
  intro _
  show hostHit 8 (.host 32 (txnWord _ _ _)) = true
  refine hostHit_of (pwe := 1#1) (poff := 24#17) (pdata := 0#32) (mwe := 1#1) (moff := 131071#17) (mdata := 0#32) ?_ ?_ ?_ ?_
  · decide
  · decide
  · decide
  · exact and_zero_data _

theorem payCountWr (data : Word) : Statement (.payCountWr data) := by
  intro _
  show hostHit 9 (.host 32 (txnWord _ _ _)) = true
  refine hostHit_of (pwe := 1#1) (poff := 28#17) (pdata := 0#32) (mwe := 1#1) (moff := 131071#17) (mdata := 0#32) ?_ ?_ ?_ ?_
  · decide
  · decide
  · decide
  · exact and_zero_data _

theorem payWr (k : BitVec 14) (data : Word) : Statement (.payWr k data) := by
  intro _
  show hostHit 10 (.host 32 (txnWord _ _ _)) = true
  refine hostHit_of (pwe := 1#1) (poff := 65536#17) (pdata := 0#32) (mwe := 1#1) (moff := 65539#17) (mdata := 0#32) ?_ ?_ ?_ ?_
  · decide
  · decide
  · exact (wordOffset_mask _ _).trans (by decide)
  · exact and_zero_data _

theorem ctrlRd (data : Word) : Statement (.ctrlRd data) := by
  intro _
  show hostHit 11 (.host 32 (txnWord _ _ _)) = true
  refine hostHit_of (pwe := 0#1) (poff := 0#17) (pdata := 0#32) (mwe := 1#1) (moff := 131071#17) (mdata := 0#32) ?_ ?_ ?_ ?_
  · decide
  · decide
  · decide
  · exact and_zero_data _

theorem baudRd (data : Word) : Statement (.baudRd data) := by
  intro _
  show hostHit 12 (.host 32 (txnWord _ _ _)) = true
  refine hostHit_of (pwe := 0#1) (poff := 4#17) (pdata := 0#32) (mwe := 1#1) (moff := 131071#17) (mdata := 0#32) ?_ ?_ ?_ ?_
  · decide
  · decide
  · decide
  · exact and_zero_data _

theorem statusRd (data : Word) : Statement (.statusRd data) := by
  intro _
  show hostHit 13 (.host 32 (txnWord _ _ _)) = true
  refine hostHit_of (pwe := 0#1) (poff := 8#17) (pdata := 0#32) (mwe := 1#1) (moff := 131071#17) (mdata := 0#32) ?_ ?_ ?_ ?_
  · decide
  · decide
  · decide
  · exact and_zero_data _

theorem attemptsRd (data : Word) : Statement (.attemptsRd data) := by
  intro _
  show hostHit 14 (.host 32 (txnWord _ _ _)) = true
  refine hostHit_of (pwe := 0#1) (poff := 12#17) (pdata := 0#32) (mwe := 1#1) (moff := 131071#17) (mdata := 0#32) ?_ ?_ ?_ ?_
  · decide
  · decide
  · decide
  · exact and_zero_data _

theorem pulsesRd (data : Word) : Statement (.pulsesRd data) := by
  intro _
  show hostHit 15 (.host 32 (txnWord _ _ _)) = true
  refine hostHit_of (pwe := 0#1) (poff := 16#17) (pdata := 0#32) (mwe := 1#1) (moff := 131071#17) (mdata := 0#32) ?_ ?_ ?_ ?_
  · decide
  · decide
  · decide
  · exact and_zero_data _

theorem infoLenRd (data : Word) : Statement (.infoLenRd data) := by
  intro _
  show hostHit 16 (.host 32 (txnWord _ _ _)) = true
  refine hostHit_of (pwe := 0#1) (poff := 20#17) (pdata := 0#32) (mwe := 1#1) (moff := 131071#17) (mdata := 0#32) ?_ ?_ ?_ ?_
  · decide
  · decide
  · decide
  · exact and_zero_data _

theorem faultInfoRd (data : Word) : Statement (.faultInfoRd data) := by
  intro _
  show hostHit 17 (.host 32 (txnWord _ _ _)) = true
  refine hostHit_of (pwe := 0#1) (poff := 24#17) (pdata := 0#32) (mwe := 1#1) (moff := 131071#17) (mdata := 0#32) ?_ ?_ ?_ ?_
  · decide
  · decide
  · decide
  · exact and_zero_data _

theorem payCountRd (data : Word) : Statement (.payCountRd data) := by
  intro _
  show hostHit 18 (.host 32 (txnWord _ _ _)) = true
  refine hostHit_of (pwe := 0#1) (poff := 28#17) (pdata := 0#32) (mwe := 1#1) (moff := 131071#17) (mdata := 0#32) ?_ ?_ ?_ ?_
  · decide
  · decide
  · decide
  · exact and_zero_data _

theorem payRd (k : BitVec 14) (data : Word) : Statement (.payRd k data) := by
  intro _
  show hostHit 19 (.host 32 (txnWord _ _ _)) = true
  refine hostHit_of (pwe := 0#1) (poff := 65536#17) (pdata := 0#32) (mwe := 1#1) (moff := 65539#17) (mdata := 0#32) ?_ ?_ ?_ ?_
  · decide
  · decide
  · exact (wordOffset_mask _ _).trans (by decide)
  · exact and_zero_data _

theorem rsvdWr (idx : BitVec 14) (data : Word) : Statement (.rsvdWr idx data) := by
  intro _
  show hostHit 20 (.host 32 (txnWord _ _ _)) = true
  refine hostHit_of (pwe := 1#1) (poff := 0#17) (pdata := 0#32) (mwe := 1#1) (moff := 65539#17) (mdata := 0#32) ?_ ?_ ?_ ?_
  · decide
  · decide
  · exact (wordOffset_mask _ _).trans (by decide)
  · exact and_zero_data _

theorem rsvdRd (idx : BitVec 14) (data : Word) : Statement (.rsvdRd idx data) := by
  intro _
  show hostHit 21 (.host 32 (txnWord _ _ _)) = true
  refine hostHit_of (pwe := 0#1) (poff := 0#17) (pdata := 0#32) (mwe := 1#1) (moff := 65539#17) (mdata := 0#32) ?_ ?_ ?_ ?_
  · decide
  · decide
  · exact (wordOffset_mask _ _).trans (by decide)
  · exact and_zero_data _

theorem misalignedB0 (we : BitVec 1) (offHi : BitVec 16) (data : Word) : Statement (.misalignedB0 we offHi data) := by
  intro _
  show hostHit 22 (.host 32 (txnWord _ _ _)) = true
  refine hostHit_of (pwe := 0#1) (poff := 1#17) (pdata := 0#32) (mwe := 0#1) (moff := 1#17) (mdata := 0#32) ?_ ?_ ?_ ?_
  · decide
  · exact and_zero_we _
  · exact odd_mask _
  · exact and_zero_data _

theorem misalignedB1 (we : BitVec 1) (offHi : BitVec 15) (data : Word) : Statement (.misalignedB1 we offHi data) := by
  intro _
  show hostHit 23 (.host 32 (txnWord _ _ _)) = true
  refine hostHit_of (pwe := 0#1) (poff := 2#17) (pdata := 0#32) (mwe := 0#1) (moff := 2#17) (mdata := 0#32) ?_ ?_ ?_ ?_
  · decide
  · exact and_zero_we _
  · exact two_mask _
  · exact and_zero_data _

theorem cancelIn : Statement (.cancelIn) := by
  intro _; decide

theorem pulse : Statement (.pulse) := by
  intro _; decide

theorem handshake : Statement (.handshake) := by
  intro _; decide

theorem infoCmd : Statement (.infoCmd) := by
  intro _; decide

theorem syncAck (t0 t1 t2 : Byte) : Statement (.syncAck t0 t1 t2) := by
  intro _; simp [rowHit, encode, wireHit, bytesHit, ackO, ackK]

theorem infoResp (len : BitVec 16) (payload : List Byte) : Statement (.infoResp len payload) := by
  intro _; simp [rowHit, encode, wireHit, bytesHit, ackO, ackK]

theorem sIdle : Statement (.sIdle) := by
  intro _; decide

theorem sOpen : Statement (.sOpen) := by
  intro _; decide

theorem sGetcfg : Statement (.sGetcfg) := by
  intro _; decide

theorem sSetcfg : Statement (.sSetcfg) := by
  intro _; decide

theorem sPulse : Statement (.sPulse) := by
  intro _; decide

theorem sSettle : Statement (.sSettle) := by
  intro _; decide

theorem sHshake : Statement (.sHshake) := by
  intro _; decide

theorem sProbe : Statement (.sProbe) := by
  intro _; decide

theorem sAckO : Statement (.sAckO) := by
  intro _; decide

theorem sAckK : Statement (.sAckK) := by
  intro _; decide

theorem sDrain : Statement (.sDrain) := by
  intro _; decide

theorem sFailchk : Statement (.sFailchk) := by
  intro _; decide

theorem sBackoff : Statement (.sBackoff) := by
  intro _; decide

theorem sInfoTx : Statement (.sInfoTx) := by
  intro _; decide

theorem sInfoAck : Statement (.sInfoAck) := by
  intro _; decide

theorem sInfoLen : Statement (.sInfoLen) := by
  intro _; decide

theorem sInfoPay : Statement (.sInfoPay) := by
  intro _; decide

theorem sRestore : Statement (.sRestore) := by
  intro _; decide

theorem sDone : Statement (.sDone) := by
  intro _; decide

theorem reservedState13 : Statement (.reservedState13) := by
  intro _; decide

theorem reservedState14 (lo : BitVec 2) : Statement (.reservedState14 lo) := by
  intro _; revert lo; decide

theorem reservedState18 (lo : BitVec 3) : Statement (.reservedState18 lo) := by
  intro _; revert lo; decide

end Sys2Proof.Laws.MatchesRow
end

