-- ==== Sys2Proof/Laws/Runs.lean ====
section
/-! SUPPORT. What weak fairness of the timer's expiry gives a run (00_scope R14, 60_exceptions R252). -/

namespace Sys2Proof.Machine

theorem expiryEnabled_iff (s : State) : expiryEnabled s ↔ s.rst = false ∧ s.blk.timer ≠ 0 := by
  simp [expiryEnabled, Block.timerExpired]

/-- Where an expiry is taken outside reset, the timer has expired right after it. -/
theorem isRun_expire {r : Nat → State} {e : Nat → Event} (hr : isRun r e) {m : Nat} (he : e m = .expire)
    (hrst : (r m).rst = false) : (r (m + 1)).blk.timer = 0 := by
  have h := hr m
  rw [he] at h
  simp only [State.perform, hrst, Bool.false_and, Bool.false_eq_true, if_false, Host.Outcome.next.injEq] at h
  rw [← h, State.timerExpire_blk]

/-- In a fair run the timer expires, or a reset comes, however late one looks. -/
theorem weaklyFair_expires {r : Nat → State} {e : Nat → Event} (hr : isRun r e) (hf : weaklyFair r e) (n : Nat) :
    ∃ m, n ≤ m ∧ ((r m).rst = true ∨ (r m).blk.timer = 0) := by
  by_contra hno
  have hen : ∀ m, n ≤ m → (r m).rst = false ∧ (r m).blk.timer ≠ 0 := fun m hm =>
    ⟨Bool.eq_false_iff.mpr fun h => hno ⟨m, hm, .inl h⟩, fun h => hno ⟨m, hm, .inr h⟩⟩
  obtain ⟨m, hm, he⟩ := hf n fun m hm => (expiryEnabled_iff _).mpr (hen m hm)
  exact (hen (m + 1) (Nat.le_succ_of_le hm)).2 (isRun_expire hr he (hen m hm).1)

/-- A run whose timer stands expired from some point on is fair. -/
theorem weaklyFair_of_expired {r : Nat → State} {e : Nat → Event} (k : Nat) (h : ∀ n, (r (n + k)).blk.timer = 0) :
    weaklyFair r e := fun n hen =>
  absurd (h n) ((expiryEnabled_iff _).mp (hen (n + k) (Nat.le_add_right n k))).2

end Sys2Proof.Machine
end

