-- ==== Sys2Proof/Tests/Slice0.lean ====
section
/-! SUPPORT. The model's own tests: expected values are those of the spec's encodings, worked examples and test vectors
(named in each comment); and, for each statement with hypotheses, states and operands that meet them. -/

namespace Sys2Proof.Tests

open Sys2Proof Sys2Proof.Machine

/-! ## Helpers -/

/-- A field of the next state, where there is one. -/
def after {α : Type} (r : Result) (f : State → α) : Option α :=
  match r with
  | .next s => some (f s)
  | .fault _ => none
  | .refused _ => none

/-- The refusal, where there is one. -/
def refusal (r : Result) : Option Refusal :=
  match r with
  | .next _ => none
  | .fault _ => none
  | .refused x => some x

/-- What a decoder accepted. -/
def accepted (x : Except Reject Instr) : Option Instr :=
  match x with
  | .ok i => some i
  | .error _ => none

/-- The reset state with other block registers. -/
def withBlk (b : Block) : State := { State.reset with blk := b }

/-- A session at 2000 baud whose STATE is `c`, in its first attempt. -/
def session (c : StateCode) : Block := { Block.reset with
  state := c, sessionBaud := 2000#32, pulses := 1#32, attempts := 1#32, lineHeld := true, cfgSaved := exampleCfg
  cfgSavedValid := true, synced := decide (13 ≤ c.toNat) }

/-- That session with these entries queued. -/
def sessionRx (b : Block) (q : List RxEntry) : State := { withBlk b with line := { Line.std with rxq := q } }

/-- That session with this answer from TxByte. -/
def sessionTx (b : Block) (t : TxState) (ready : Bool) : State :=
  { withBlk b with line := { Line.std with txState := t, txReady := ready } }

/-! ## WellFormed refuses ill-formed terms (30_encoding R86, R94, R95) -/

theorem test_wf_start_needs_bit0 : (Instr.start 2#32).wellFormed = false := by decide
theorem test_wf_cancel_needs_bit1 : (Instr.cancel 0#32).wellFormed = false := by decide
theorem test_wf_cancel_is_not_start : (Instr.cancel 3#32).wellFormed = false := by decide
theorem test_wf_ctrlNop_has_no_action : (Instr.ctrlNop 1#32).wellFormed = false := by decide
theorem test_wf_ctrlNop_is_not_cancel : (Instr.ctrlNop 2#32).wellFormed = false := by decide
theorem test_wf_rsvdWr_is_above_payCount : (Instr.rsvdWr 7#14 0#32).wellFormed = false := by decide
theorem test_wf_rsvdRd_is_above_payCount : (Instr.rsvdRd 7#14 0#32).wellFormed = false := by decide
theorem test_wf_infoResp_counts_its_payload : (Instr.infoResp 2#16 [0#8]).wellFormed = false := by decide

/-! ## Decoding: words written out from the encodings -/

/-- 30_encoding R94, R95: WE 1, OFF 0x000, by DATA[1:0]. -/
theorem test_decode_ctrl :
    accepted (decode (.host 32 0x2000000000001#50)) = some (.start 1#32) ∧
    accepted (decode (.host 32 0x2000000000003#50)) = some (.start 3#32) ∧
    accepted (decode (.host 32 0x2000000000002#50)) = some (.cancel 2#32) ∧
    accepted (decode (.host 32 0x20000FFFFFFFC#50)) = some (.ctrlNop 0xFFFFFFFC#32) := by decide

/-- 20_memory R61, 30_encoding R94: writes at 0x004 to 0x01C. -/
theorem test_decode_writes :
    accepted (decode (.host 32 0x2000400002580#50)) = some (.baudWr 9600#32) ∧
    accepted (decode (.host 32 0x20008FFFFFFFF#50)) = some (.statusWr 0xFFFFFFFF#32) ∧
    accepted (decode (.host 32 0x2000C00000001#50)) = some (.attemptsWr 1#32) ∧
    accepted (decode (.host 32 0x2001000000001#50)) = some (.pulsesWr 1#32) ∧
    accepted (decode (.host 32 0x2001400000001#50)) = some (.infoLenWr 1#32) ∧
    accepted (decode (.host 32 0x2001800000001#50)) = some (.faultInfoWr 1#32) ∧
    accepted (decode (.host 32 0x2001C00000001#50)) = some (.payCountWr 1#32) := by decide

/-- 20_memory R61, 30_encoding R94: reads at 0x000 to 0x01C. -/
theorem test_decode_reads :
    accepted (decode (.host 32 0x0000000000000#50)) = some (.ctrlRd 0#32) ∧
    accepted (decode (.host 32 0x0000400000000#50)) = some (.baudRd 0#32) ∧
    accepted (decode (.host 32 0x0000800000000#50)) = some (.statusRd 0#32) ∧
    accepted (decode (.host 32 0x0000C00000000#50)) = some (.attemptsRd 0#32) ∧
    accepted (decode (.host 32 0x0001000000000#50)) = some (.pulsesRd 0#32) ∧
    accepted (decode (.host 32 0x0001400000000#50)) = some (.infoLenRd 0#32) ∧
    accepted (decode (.host 32 0x0001800000000#50)) = some (.faultInfoRd 0#32) ∧
    accepted (decode (.host 32 0x0001C00000000#50)) = some (.payCountRd 0#32) := by decide

/-- 20_memory R62, R64: the window 0x10000 to 0x1FFFC (P1's `RDPAY 1`), the reserved range 0x020 to 0x0FFFC. -/
theorem test_decode_window_and_reserved :
    accepted (decode (.host 32 0x1000400000000#50)) = some (.payRd 1#14 0#32) ∧
    accepted (decode (.host 32 0x1FFFC00000000#50)) = some (.payRd 0x3FFF#14 0#32) ∧
    accepted (decode (.host 32 0x3000000000001#50)) = some (.payWr 0#14 1#32) ∧
    accepted (decode (.host 32 0x2002000000005#50)) = some (.rsvdWr 8#14 5#32) ∧
    accepted (decode (.host 32 0x0FFFC00000000#50)) = some (.rsvdRd 0x3FFF#14 0#32) := by decide

/-- 20_memory R66, 30_encoding R94: a misaligned offset before any row that matches the rest, OFF[0] before OFF[1]. -/
theorem test_decode_misaligned :
    accepted (decode (.host 32 0x0000100000000#50)) = some (.misalignedB0 0#1 0#16 0#32) ∧
    accepted (decode (.host 32 0x3000300000000#50)) = some (.misalignedB0 1#1 0x8001#16 0#32) ∧
    accepted (decode (.host 32 0x0000600000000#50)) = some (.misalignedB1 0#1 1#15 0#32) := by decide

/-- 44_host_interface R203; 20_memory R66. -/
theorem test_decode_pin_and_width :
    accepted (decode (.pin 1#1)) = some .cancelIn ∧ accepted (decode (.pin 0#1)) = none ∧
    accepted (decode (.host 16 0x0000800000000#50)) = none := by decide

/-- 30_encoding R82 to R84, R90. -/
theorem test_decode_wireOut :
    accepted (decode (.wireOut [0x55#8])) = some .pulse ∧
    accepted (decode (.wireOut
      [0x50#8, 0x00#8, 0x08#8, 0x00#8, 0x38#8, 0xF0#8, 0x00#8, 0x20#8, 0x00#8, 0x00#8, 0x00#8, 0x18#8])) =
      some .handshake ∧
    accepted (decode (.wireOut [0x10#8, 0x00#8, 0x00#8, 0x00#8])) = some .infoCmd ∧
    accepted (decode (.wireOut [0x10#8, 0x01#8, 0x00#8, 0x00#8])) = none := by decide

/-- 30_encoding R85, R86; 95_test_vectors E4, E8, E9. -/
theorem test_decode_wireIn :
    accepted (decode (.syncIn [0x4F#8, 0x4B#8, 0x01#8, 0x02#8, 0x03#8])) = some (.syncAck 1#8 2#8 3#8) ∧
    accepted (decode (.infoIn [0x4F#8, 0x4B#8, 0x04#8, 0x00#8, 0xDE#8, 0xAD#8, 0xBE#8, 0xEF#8])) =
      some (.infoResp 4#16 [0xDE#8, 0xAD#8, 0xBE#8, 0xEF#8]) ∧
    accepted (decode (.infoIn [0x4F#8, 0x4B#8, 0x00#8, 0x00#8])) = some (.infoResp 0#16 []) ∧
    accepted (decode (.infoIn [0x4F#8, 0x4B#8, 0x04#8, 0x00#8, 0xDE#8])) = none ∧
    accepted (decode (.syncIn [0x4B#8, 0x4F#8, 0x01#8, 0x02#8, 0x03#8])) = none := by decide

/-- 30_encoding R98. -/
theorem test_decode_states :
    decodeSeq 0x00#5 = .sIdle ∧ decodeSeq 0x01#5 = .sOpen ∧ decodeSeq 0x02#5 = .sGetcfg ∧ decodeSeq 0x03#5 = .sSetcfg ∧
    decodeSeq 0x04#5 = .sPulse ∧ decodeSeq 0x05#5 = .sSettle ∧ decodeSeq 0x06#5 = .sHshake ∧
    decodeSeq 0x07#5 = .sProbe ∧ decodeSeq 0x08#5 = .sAckO ∧ decodeSeq 0x09#5 = .sAckK ∧ decodeSeq 0x0A#5 = .sDrain ∧
    decodeSeq 0x0B#5 = .sFailchk ∧ decodeSeq 0x0C#5 = .sBackoff ∧ decodeSeq 0x0D#5 = .sInfoTx ∧
    decodeSeq 0x0E#5 = .sInfoAck ∧ decodeSeq 0x0F#5 = .sInfoLen ∧ decodeSeq 0x10#5 = .sInfoPay ∧
    decodeSeq 0x11#5 = .sRestore ∧ decodeSeq 0x12#5 = .sDone := by decide

/-- 30_encoding R100. -/
theorem test_decode_reserved_states :
    decodeSeq 0x13#5 = .reservedState13 ∧ decodeSeq 0x14#5 = .reservedState14 0#2 ∧
    decodeSeq 0x17#5 = .reservedState14 3#2 ∧ decodeSeq 0x18#5 = .reservedState18 0#3 ∧
    decodeSeq 0x1F#5 = .reservedState18 7#3 := by decide

/-- Words numbered as the opcode table numbers them. -/
theorem test_table_words :
    decodeTableWord 56 0x2000000000001 = some (.start 1#32) ∧
    decodeTableWord 1 1 = some .cancelIn ∧
    decodeTableWord 8 0x55 = some .pulse ∧
    decodeTableWord 96 0x1800000020_00F0380008_0050 = some .handshake ∧
    decodeTableWord 32 0x00000010 = some .infoCmd ∧
    decodeTableWord 40 0x0302014B4F = some (.syncAck 1#8 2#8 3#8) ∧
    decodeTableWord 32 0x00004B4F = some (.infoResp 0#16 []) ∧
    decodeTableWord 8 0x0B = some .sFailchk ∧
    decodeTableWord 8 0x14 = some (.reservedState14 0#2) := by decide

/-- The assembler's words are those of programs P1 and P2 (30_encoding R96, R97; 95_test_vectors). -/
theorem test_assembler :
    asmStart = .host 32 0x2000000000001#50 ∧ asmCancel = .host 32 0x2000000000002#50 ∧
    asmSetBaud 9600#32 = .host 32 0x2000400002580#50 ∧ asmPoll = .host 32 0x0000800000000#50 ∧
    asmRdPay 1#14 = .host 32 0x1000400000000#50 ∧ waitDoneEnds 0x00010612#32 = true ∧
    waitStateEnds 0x0C#5 0x0000010C#32 = true ∧ waitDoneEnds 0x0000010C#32 = false := by decide

/-- A table word placed after reset runs in the very next step. -/
theorem test_fetch_start :
    after (step (State.reset.withFetchWord 56 0x2000000000001)) (·.blk.state) = some 0x01#5 := by decide

theorem test_fetch_state :
    after (step (State.reset.withFetchWord 8 0x0B)) (·.blk.state) = some 0x0C#5 ∧
    refusal (step (State.reset.withFetchWord 8 0x13)) = some .reservedState := by decide

/-! ## Arithmetic tables (95_test_vectors L2.1, L2.2, L2.3, L2.10) -/

theorem test_pulseCount_table :
    pulseCount 1 = 0 ∧ pulseCount 1999 = 0 ∧ pulseCount 2000 = 1 ∧ pulseCount 3999 = 1 ∧ pulseCount 4000 = 2 ∧
    pulseCount 14400 = 7 ∧ pulseCount 57600 = 28 ∧ pulseCount 230400 = 115 ∧ pulseCount 858993460 = 429496 := by decide

theorem test_length_table :
    len16 0x04#8 0x00#8 = 4#16 ∧ len16 0x00#8 0x01#8 = 256#16 ∧ len16 0x01#8 0x80#8 = 32769#16 ∧
    len16 0xFF#8 0xFF#8 = 65535#16 := by decide

theorem test_msToTicks_table :
    msToTicks 1000000 20 = 20000 ∧ msToTicks 1000000 0 = 0 ∧ msToTicks 32768 20 = 656 ∧
    msToTicks 32768 3000 = 98304 ∧ msToTicks 50000000 3000 = 150000000 := by decide

/-! ## HOST (95_test_vectors L2.9, P1, P3, P5) -/

/-- R201's worked example. -/
theorem test_start_from_reset :
    after (exec (.start 1#32) State.reset) (fun s => (s.blk.sessionBaud, s.blk.status)) =
      some (115200#32, 0x00000101#32) := by decide

/-- P5: USAGE from idle, and again from S_DONE. -/
theorem test_start_usage :
    after (exec (.start 1#32) (withBlk { Block.reset with baud := 0#32 })) (fun s => (s.blk.status, s.blk.faultInfo)) =
      some (0x01030212#32, 0x00000000#32) ∧
    after (exec (.start 3#32) (withBlk { Block.reset with baud := 0#32, state := codeDone, result := .success }))
      (fun s => (s.blk.status, s.blk.faultInfo)) = some (0x01030212#32, 0x00120000#32) := by decide

/-- L2.9: CANCEL in S_BACKOFF; CANCEL while idle. -/
theorem test_cancel :
    after (exec (.cancel 2#32) (withBlk (session codeBackoff))) (·.blk.status) = some 0x0000090C#32 ∧
    after (exec (.cancel 2#32) State.reset) (·.blk.status) = some 0#32 := by decide

/-- R203's worked example: a pulse on `cancel_in` during S_PULSE. -/
theorem test_cancelIn :
    after (exec .cancelIn (withBlk (session codePulse))) (fun s => (s.blk.cancelFlag, s.blk.state)) =
      some (true, codePulse) := by decide

/-- L2.9: START while busy in S_BACKOFF is ignored; `HW 0x000, 3` begins with CANCEL_FLAG 1. -/
theorem test_start_busy_and_with_cancel :
    after (exec (.start 1#32) (withBlk (session codeBackoff))) id = some (withBlk (session codeBackoff)) ∧
    after (exec (.start 3#32) State.reset) (·.blk.status) = some 0x00000901#32 := by decide

/-- R205's worked example. -/
theorem test_baud_write : after (exec (.baudWr 0x2580#32) State.reset) (·.blk.baud) = some 9600#32 := by decide

/-- L2.9: ignored writes. -/
theorem test_ignored_writes :
    after (exec (.statusWr 0xFFFFFFFF#32) State.reset) id = some State.reset ∧
    after (exec (.payWr 0#14 1#32) State.reset) id = some State.reset := by decide

/-- R206 after reset; L2.9 reserved offsets. -/
theorem test_reads_after_reset :
    after (exec (.baudRd 0#32) State.reset) (·.hostData) = some 0x0001C200#32 ∧
    after (exec (.rsvdRd 8#14 0#32) { State.reset with hostData := 7#32 }) (·.hostData) = some 0#32 := by decide

/-- The codes of 10_state R29 and 60_exceptions R231, in the tables' order. -/
theorem test_status_codes :
    [SessionResult.none, .success, .cancelled, .fault].map (·.code) = [0#2, 1#2, 2#2, 3#2] ∧
    [Cause.none, .usage, .lineOpen, .cfgGet, .cfgSet, .txIo, .txClosed, .rxIo, .rxClosed, .infoNak, .alloc,
      .cfgRestore].map (·.code) = [0#4, 1#4, 2#4, 3#4, 4#4, 5#4, 6#4, 7#4, 8#4, 9#4, 10#4, 11#4] := by decide

/-- The block after P1: DE AD BE EF received. -/
def afterP1 : Block := { Block.reset with
  state := codeDone, sessionBaud := 115200#32, pulses := 57#32, attempts := 1#32, synced := true, result := .success
  infoLen := 4#16, payCount := 4#16, payload := [(0, 0xDE#8), (1, 0xAD#8), (2, 0xBE#8), (3, 0xEF#8)] }

/-- P1's reads. -/
theorem test_p1_registers :
    after (exec (.statusRd 0#32) (withBlk afterP1)) (·.hostData) = some 0x00010612#32 ∧
    after (exec (.attemptsRd 0#32) (withBlk afterP1)) (·.hostData) = some 1#32 ∧
    after (exec (.pulsesRd 0#32) (withBlk afterP1)) (·.hostData) = some 0x39#32 ∧
    after (exec (.infoLenRd 0#32) (withBlk afterP1)) (·.hostData) = some 4#32 ∧
    after (exec (.payCountRd 0#32) (withBlk afterP1)) (·.hostData) = some 4#32 ∧
    afterP1.exitCode = some 0 := by decide

/-- P1's window reads, and L2.9's with PAY_COUNT 3. -/
theorem test_p1_window :
    after (exec (.payRd 0#14 0#32) (withBlk afterP1)) (·.hostData) = some 0xEFBEADDE#32 ∧
    after (exec (.payRd 1#14 0#32) (withBlk afterP1)) (·.hostData) = some 0#32 ∧
    after (exec (.payRd 0#14 0#32) (withBlk { afterP1 with payCount := 3#16 })) (·.hostData) = some 0x00BEADDE#32 := by
  decide

/-- R211's worked example. -/
theorem test_fault_info_read :
    after (exec (.faultInfoRd 0#32) (withBlk { Block.reset with faultInfo := faultInfoWord codeInfoAck 0x5245#16 }))
      (·.hostData) = some 0x000E5245#32 := by decide

/-- L2.9: a 16-bit read at 0x008, a 32-bit read at 0x006 and at 0x001. -/
theorem test_bad_access :
    refusal (State.reset.perform (.host 16 0x0000800000000#50)) = some .accessWidth ∧
    refusal (State.reset.perform (.host 32 0x0000600000000#50)) = some .misaligned ∧
    refusal (State.reset.perform (.host 32 0x0000100000000#50)) = some .misaligned := by decide

/-! ## Line Transport (95_test_vectors L2.7) -/

theorem test_open :
    after (exec .sOpen (withBlk { session codeOpen with lineHeld := false, cfgSavedValid := false }))
      (fun s => (s.blk.lineHeld, s.blk.state)) = some (true, 0x02#5) ∧
    after (exec .sOpen { withBlk { session codeOpen with lineHeld := false, cfgSavedValid := false } with
      line := { Line.std with present := false } })
      (fun s => (s.blk.status, s.blk.faultInfo, s.line.reqlog)) =
      some (0x02030212#32, 0x00010000#32, [.openLine false]) := by decide

theorem test_getcfg :
    after (exec .sGetcfg (withBlk { session codeGetcfg with cfgSavedValid := false }))
      (fun s => (s.blk.cfgSaved, s.blk.cfgSavedValid, s.blk.state)) = some (exampleCfg, true, 0x03#5) ∧
    after (exec .sGetcfg { withBlk { session codeGetcfg with cfgSavedValid := false } with
      line := { Line.std with getOk := false } })
      (fun s => (s.blk.status, s.blk.faultInfo, s.line.reqlog)) =
      some (0x03030212#32, 0x00020000#32, [.cfgGet false, .close]) := by decide

/-- R112's worked example; a FAIL owes the restore. -/
theorem test_setcfg :
    after (exec .sSetcfg (withBlk { session codeSetcfg with sessionBaud := 115200#32, attempts := 0#32 }))
      (fun s => (s.line.cfg, s.blk.attempts, s.blk.pulses, s.blk.state)) =
      some (rawCfg exampleCfg 115200, 1#32, 57#32, 0x04#5) ∧
    after (exec .sSetcfg { withBlk (session codeSetcfg) with line := { Line.std with setOk := false } })
      (fun s => (s.blk.state, s.blk.faultInfo, s.blk.result, s.line.cfg)) =
      some (0x11#5, 0x00030000#32, .fault, exampleCfg) := by decide

/-- R114's worked example; "success, but the restore answers FAIL" with a configuration LINE does not support. -/
theorem test_restore :
    after (exec .sRestore (withBlk { session codeRestore with result := .success }))
      (fun s => (s.line.cfg, s.blk.status, s.line.reqlog)) =
      some (exampleCfg, 0x00010612#32, [.cfgSet exampleCfg true, .close]) ∧
    after (exec .sRestore { withBlk { session codeRestore with result := .success } with
      params := { Params.default with lineSupport := .allBut [exampleCfg] } })
      (fun s => (s.blk.status, s.blk.faultInfo)) = some (0x0B031612#32, 0x00110000#32) := by decide

/-- 40_line_transport R112, 00_scope R8: a line that runs at listed rates only, or takes listed configurations only. -/
theorem test_line_supports :
    lineSupports { Params.default with lineSupport := .rates [9600, 115200] } (rawCfg exampleCfg 115200) = true ∧
    lineSupports { Params.default with lineSupport := .only [exampleCfg] } (rawCfg exampleCfg 115200) = false ∧
    after (exec .sSetcfg { withBlk (session codeSetcfg) with
      params := { Params.default with lineSupport := .rates [9600, 115200] } }) (fun s => (s.blk.faultCause, s.line.cfg)) =
      some (.cfgSet, exampleCfg) := by decide

/-- L2.7: on the fault path the first cause stands. -/
theorem test_restore_on_fault_path :
    after (exec .sRestore { withBlk { session codeRestore with
      result := .fault, faultCause := .infoNak, faultInfo := 0x000E4C4F#32 } with
      line := { Line.std with setOk := false } }) (fun s => (s.blk.status, s.blk.faultInfo)) =
      some (0x09031612#32, 0x000E4C4F#32) := by decide

/-- S_IDLE and S_DONE hold; a reserved code is refused (R100). -/
theorem test_idle_done_reserved :
    after (exec .sIdle State.reset) id = some State.reset ∧ after (exec .sDone (withBlk afterP1)) id = some (withBlk afterP1) ∧
    refusal (exec .reservedState13 State.reset) = some .reservedState ∧
    refusal (exec (.reservedState14 3#2) State.reset) = some .reservedState ∧
    refusal (exec (.reservedState18 7#3) State.reset) = some .reservedState := by decide

/-! ## Sync Negotiator (95_test_vectors L2.4, L2.5, L2.8, L2.11) -/

/-- L2.11 steps 4 and 5. -/
theorem test_pulse :
    after (exec .sPulse (withBlk (session codePulse))) (fun s => (s.line.txlog, s.blk.idx)) = some ([0x55#8], 1#32) ∧
    after (exec .sPulse (withBlk { session codePulse with idx := 1#32 })) (fun s => (s.blk.timer, s.blk.state)) =
      some (20000, 0x05#5) := by decide

/-- L2.8: ERROR after 10 pulses. -/
theorem test_pulse_error :
    after (exec .sPulse (sessionTx { session codePulse with pulses := 57#32, idx := 10#32 } .error true))
      (fun s => (s.blk.faultInfo, s.blk.faultCause, s.blk.state)) = some (0x0004000A#32, .txIo, 0x11#5) := by decide

theorem test_settle :
    after (exec .sSettle (withBlk { session codeSettle with timer := 0, idx := 1#32 }))
      (fun s => (s.blk.idx, s.blk.state)) = some (0#32, 0x06#5) ∧
    after (exec .sSettle (withBlk { session codeSettle with timer := 1 })) (·.blk.state) = some 0x05#5 := by decide

/-- R154: byte 4 of the frame, and the end; L2.8: CLOSED at the first byte. -/
theorem test_hshake :
    after (exec .sHshake (withBlk { session codeHshake with idx := 4#32 })) (fun s => (s.line.txlog, s.blk.idx)) =
      some ([0x38#8], 5#32) ∧
    after (exec .sHshake (withBlk { session codeHshake with idx := 12#32 })) (fun s => (s.blk.timer, s.blk.state)) =
      some (0, 0x07#5) := by decide

theorem test_hshake_closed :
    after (exec .sHshake (sessionTx (session codeHshake) .closed true)) (fun s => (s.blk.faultInfo, s.blk.faultCause)) =
      some (0x00060000#32, .txClosed) := by decide

/-- R155's worked examples, and L2.5's [CLOSED] and [ERROR, ...]. -/
theorem test_probe :
    after (exec .sProbe (sessionRx (session codeProbe) (rxBytes [0x4F#8, 0x4B#8, 1#8, 2#8, 3#8]))) (·.blk.state) =
      some 0x08#5 ∧
    after (exec .sProbe (withBlk (session codeProbe))) (·.blk.state) = some 0x0B#5 ∧
    after (exec .sProbe (sessionRx (session codeProbe) [.closed])) (·.blk.state) = some 0x0B#5 ∧
    after (exec .sProbe (sessionRx (session codeProbe) [.error, .byte 0x4F#8])) (fun s => (s.blk.state, s.line.rxq)) =
      some (0x0B#5, [.error, .byte 0x4F#8]) := by decide

/-- R156's worked example, and the match. -/
theorem test_ackO :
    after (exec .sAckO (sessionRx (session codeAckO) [.byte 0x4E#8])) (fun s => (s.blk.state, s.line.rxq)) =
      some (0x0B#5, []) ∧
    after (exec .sAckO (sessionRx (session codeAckO) [.byte 0x4F#8, .byte 0x4B#8])) (fun s => (s.blk.state, s.line.rxq)) =
      some (0x09#5, [.byte 0x4B#8]) := by decide

/-- L2.5: [4F, ERROR], [4F] and nothing more. -/
theorem test_ackK :
    after (exec .sAckK (sessionRx (session codeAckK) [.error])) (fun s => (s.blk.faultInfo, s.blk.faultCause)) =
      some (0x00090001#32, .rxIo) ∧
    after (exec .sAckK (withBlk (session codeAckK))) (·.blk.status) = some 0x00000109#32 := by decide

/-- L2.5: the third trailer byte, then the success; [.. 01 CLOSED]. -/
theorem test_drain :
    after (exec .sDrain (withBlk { session codeDrain with idx := 3#32 })) (fun s => (s.blk.synced, s.blk.idx, s.blk.state)) =
      some (true, 0#32, 0x0D#5) ∧
    after (exec .sDrain (sessionRx { session codeDrain with idx := 1#32 } [.closed]))
      (fun s => (s.blk.faultInfo, s.blk.faultCause)) = some (0x000A0001#32, .rxClosed) := by decide

/-- L2.5: CANCEL_FLAG at S_FAILCHK. -/
theorem test_failchk :
    after (exec .sFailchk (withBlk (session codeFailchk))) (fun s => (s.blk.timer, s.blk.status)) =
      some (3000000, 0x0000010C#32) ∧
    after (exec .sFailchk (withBlk { session codeFailchk with cancelFlag := true }))
      (fun s => (s.blk.result, s.blk.state)) = some (.cancelled, 0x11#5) := by decide

/-- R160's and R151's worked examples. -/
theorem test_backoff :
    after (exec .sBackoff (withBlk { session codeBackoff with sessionBaud := 9600#32, attempts := 2#32 }))
      (fun s => (s.blk.attempts, s.blk.pulses, s.blk.state)) = some (3#32, 4#32, 0x04#5) ∧
    after (exec .sBackoff (withBlk { session codeBackoff with attempts := 0xFFFFFFFF#32 })) (·.blk.attempts) =
      some 0#32 := by decide

/-! ## Command Framer (95_test_vectors L2.6, L2.8) -/

theorem test_infoTx :
    after (exec .sInfoTx (sessionTx { session codeInfoTx with idx := 2#32 } .error true))
      (fun s => (s.blk.faultInfo, s.blk.state)) = some (0x000D0002#32, 0x11#5) ∧
    after (exec .sInfoTx (withBlk { session codeInfoTx with idx := 4#32 })) (fun s => (s.blk.idx, s.blk.state)) =
      some (0#32, 0x0E#5) := by decide

/-- L2.6: [4F 4C] and [77 4F], each after its two reads; the two halves of ACKB. -/
theorem test_infoAck_nak :
    after (exec .sInfoAck (withBlk { session codeInfoAck with idx := 2#32, ackb := 0x4C4F#16 })) (·.blk.faultInfo) =
      some 0x000E4C4F#32 ∧
    after (exec .sInfoAck (withBlk { session codeInfoAck with idx := 2#32, ackb := 0x4F77#16 })) (·.blk.faultInfo) =
      some 0x000E4F77#32 := by decide

theorem test_infoAck_bytes :
    after (exec .sInfoAck (sessionRx { session codeInfoAck with ackb := 0x1234#16 } [.byte 0x4F#8])) (·.blk.ackb) =
      some 0x124F#16 ∧
    after (exec .sInfoAck (sessionRx { session codeInfoAck with idx := 1#32, ackb := 0x124F#16 } [.byte 0x4B#8]))
      (·.blk.ackb) = some 0x4B4F#16 := by decide

/-- L2.6: [.. 11 00] with PAYLOAD_CAP 16; [.. 04 ERROR]. -/
theorem test_infoLen_faults :
    after (exec .sInfoLen { withBlk { session codeInfoLen with idx := 2#32, infoLen := 17#16 } with
      params := { Params.default with payloadCap := 16 } }) (fun s => (s.blk.faultInfo, s.blk.infoLen)) =
      some (0x000F0011#32, 17#16) ∧
    after (exec .sInfoLen (sessionRx { session codeInfoLen with idx := 1#32, lenb := 4#8 } [.error]))
      (fun s => (s.blk.faultInfo, s.blk.lenb, s.blk.infoLen)) = some (0x000F0001#32, 4#8, 0#16) := by decide

/-- R183's worked example; E9: L = 0. -/
theorem test_infoLen_done :
    after (exec .sInfoLen (sessionRx { session codeInfoLen with idx := 1#32, lenb := 4#8 } [.byte 0#8]))
      (fun s => (s.blk.infoLen, s.blk.idx)) = some (4#16, 2#32) ∧
    after (exec .sInfoLen (withBlk { session codeInfoLen with idx := 2#32 })) (fun s => (s.blk.result, s.blk.state)) =
      some (.success, 0x11#5) := by decide

/-- R184: a byte of zero is stored by taking the entry out; the last byte. -/
theorem test_infoPay_store :
    after (exec .sInfoPay (sessionRx { session codeInfoPay with
      infoLen := 4#16, idx := 1#32, payCount := 1#16, payload := [(0, 0xDE#8), (1, 0x77#8)] } [.byte 0#8]))
      (fun s => (s.blk.payload, s.blk.payCount, s.blk.idx)) = some ([(0, 0xDE#8)], 2#16, 2#32) ∧
    after (exec .sInfoPay (withBlk { session codeInfoPay with infoLen := 4#16, idx := 4#32, payCount := 4#16 }))
      (fun s => (s.blk.result, s.blk.state)) = some (.success, 0x11#5) := by decide

/-- L2.6: [.. 03 00 01 02 CLOSED]. -/
theorem test_infoPay_closed :
    after (exec .sInfoPay (sessionRx { session codeInfoPay with
      infoLen := 3#16, idx := 2#32, payCount := 2#16, payload := [(0, 1#8), (1, 2#8)] } [.closed]))
      (fun s => (s.blk.faultInfo, s.blk.windowWord 0)) = some (0x00100002#32, 0x00000201#32) := by decide

/-! ## Wire frames, reset, timer, LINE -/

theorem test_pulse_frame :
    after (exec .pulse (withBlk { session codePulse with pulses := 2#32 })) (fun s => (s.line.txlog, s.blk.idx)) =
      some ([0x55#8], 1#32) := by decide

theorem test_handshake_frame :
    after (exec .handshake (withBlk (session codeHshake))) (fun s => (s.line.txlog, s.blk.idx, s.blk.state)) =
      some (handshakeFrame, 12#32, 0x06#5) := by decide

/-- 41_byte_channel R142: a stall keeps IDX. -/
theorem test_infoCmd_frame :
    after (exec .infoCmd (withBlk (session codeInfoTx))) (fun s => (s.line.txlog, s.blk.idx)) =
      some ([0x10#8, 0#8, 0#8, 0#8], 4#32) ∧
    after (exec .infoCmd (sessionTx (session codeInfoTx) .ok false)) (fun s => (s.line.txlog, s.blk.idx)) =
      some ([], 0#32) := by decide

theorem test_peer_frames :
    after (exec (.syncAck 1#8 2#8 3#8) State.reset) (·.line.rxq) =
      some [.byte 0x4F#8, .byte 0x4B#8, .byte 1#8, .byte 2#8, .byte 3#8] ∧
    after (exec (.infoResp 2#16 [0xDE#8, 0xAD#8]) State.reset) (·.line.rxq) =
      some [.byte 0x4F#8, .byte 0x4B#8, .byte 2#8, .byte 0#8, .byte 0xDE#8, .byte 0xAD#8] := by decide

/-- P6: a reset during the backoff leaves LINE raw and open, and STATUS reads 0. -/
theorem test_reset :
    after ((sessionRx (session codeBackoff) [.byte 7#8]).perform (.rst true))
      (fun s => (s.blk.status, s.blk.baud, s.line.rxq, s.line.reqlog)) =
      some (0#32, 0x0001C200#32, [.byte 7#8], []) ∧
    refusal ({ State.reset with rst := true }.perform asmStart) = some .hostDuringReset := by decide

/-- 60_exceptions R252: a `clk` cycle moves TIMER and then steps; the expiry of the untimed model. -/
theorem test_timer :
    after ((withBlk { session codeSettle with timer := 2 }).perform .clk) (fun s => (s.blk.timer, s.blk.state)) =
      some (1, 0x05#5) ∧
    after ((withBlk { session codeSettle with timer := 1 }).perform .clk) (fun s => (s.blk.timer, s.blk.state)) =
      some (0, 0x06#5) ∧
    after ((withBlk { session codeBackoff with timer := 9 }).perform .expire) (·.blk.timer) = some 0 := by decide

/-- 10_state R46, R47: the overrun policies, and a line the block owns. -/
theorem test_line_events :
    (Line.own { Params.default with rxOverrun := .appendError } false Line.std .overrun).rxq = [.error] ∧
    (Line.own Params.default false Line.std .overrun).rxq = [] ∧
    (Line.own { Params.default with rxLineErrors := .appendByte } false Line.std (.lineError 9#8)).rxq = [.byte 9#8] ∧
    (Line.own Params.default true Line.std (.reconfigure (rawCfg exampleCfg 1))).cfg = exampleCfg ∧
    (Line.own Params.default false Line.std (.reconfigure (rawCfg exampleCfg 1))).cfg = rawCfg exampleCfg 1 := by decide

/-- E11: EXIT is 1 for a cancelled session and a fault, and has no value before S_DONE. -/
theorem test_exit :
    ({ afterP1 with result := .cancelled } : Block).exitCode = some 1 ∧
    ({ afterP1 with result := .fault } : Block).exitCode = some 1 ∧ (session codeRestore).exitCode = none := by decide

/-! ## Witnesses: states and operands that meet a statement's hypotheses, clause by clause -/

theorem test_witness_DecodeOfEncode :
    (Instr.start 1#32).wellFormed = true ∧ (Instr.cancel 2#32).wellFormed = true ∧ (Instr.ctrlNop 4#32).wellFormed = true ∧
    (Instr.rsvdWr 8#14 0#32).wellFormed = true ∧ (Instr.rsvdRd 0x3FFF#14 0#32).wellFormed = true ∧
    (Instr.infoResp 1#16 [7#8]).wellFormed = true ∧ (Instr.infoResp 0#16 []).wellFormed = true := by decide

theorem test_witness_EncodeOfDecode : decode (.host 32 0x2002000000005#50) = .ok (.rsvdWr 8#14 5#32) := rfl

/-- One state per clause: the event at the head of the schedule decodes. -/
theorem test_witness_StepRunsDecoded :
    (withBlk (session codeFailchk)).rst = false ∧
    decode (.host 32 0x0000800000000#50) = .ok (.statusRd 0#32) ∧ decode (.pin 1#1) = .ok .cancelIn ∧
    decode (.wireOut [0x55#8]) = .ok .pulse ∧
    decode (.syncIn [0x4F#8, 0x4B#8, 0#8, 0#8, 0#8]) = .ok (.syncAck 0#8 0#8 0#8) ∧
    decode (.infoIn [0x4F#8, 0x4B#8, 0#8, 0#8]) = .ok (.infoResp 0#16 []) ∧
    decode (.seq (withBlk (session codeFailchk)).blk.state) = .ok .sFailchk ∧
    ({ withBlk (session codeFailchk) with inputs := [.clk, .seq] } : State).inputs = .clk :: [.seq] :=
  ⟨rfl, rfl, rfl, rfl, rfl, rfl, rfl, rfl⟩

theorem test_witness_BadAccessRefused :
    State.reset.rst = false ∧ (16 : Nat) ≠ 32 ∧ (0x0000100000000#50).getLsbD 32 = true ∧
    (0x3FFFE00000000#50).getLsbD 33 = true := by decide

theorem test_witness_ReservedCodesNeverWritten :
    (withBlk { Block.reset with state := 0x13#5 }).rst = false ∧
    0x13 ≤ (withBlk { Block.reset with state := 0x13#5 }).blk.state.toNat ∧
    (withBlk (session codeDone)).blk.state.toNat ≤ 0x12 ∧
    after ((withBlk (session codeDone)).perform .seq) (·.blk.state) = some codeDone := by decide

theorem test_witness_ResetBlocksTheBlock : ({ State.reset with rst := true } : State).rst = true := rfl

theorem test_witness_ReservedOffsets :
    State.reset.rst = false ∧ 8 ≤ (8#14).toNat ∧ 8 ≤ (0x3FFF#14).toNat := by decide

theorem test_witness_StartBeginsSession :
    (1#32).getLsbD 1 = false ∧ State.reset.blk.busy = false ∧ State.reset.blk.baud ≠ 0#32 ∧
    (withBlk afterP1).blk.busy = false ∧ (withBlk { afterP1 with baud := 1#32 }).blk.baud ≠ 0#32 := by decide

theorem test_witness_StartUsage :
    (withBlk { Block.reset with baud := 0#32 }).blk.busy = false ∧
    (withBlk { Block.reset with baud := 0#32 }).blk.baud = 0#32 := by decide

theorem test_witness_StartWithCancel :
    State.reset.blk.busy = false ∧ State.reset.blk.baud ≠ 0#32 ∧ (3#32).getLsbD 1 = true ∧
    (withBlk (session codeOpen)).blk.busy = true ∧ (withBlk (session codeRestore)).blk.busy = true ∧
    (1#32).getLsbD 1 = false := by decide

theorem test_witness_CancelRequests :
    (withBlk (session codeRestore)).blk.busy = true ∧ (withBlk (session codeDone)).blk.busy = false := by decide

theorem test_witness_FaultEntry :
    (session codeSetcfg).cfgSavedValid = true ∧
    ({ session codeGetcfg with cfgSavedValid := false } : Block).cfgSavedValid = false ∧
    ({ session codeGetcfg with cfgSavedValid := false } : Block).lineHeld = true ∧
    Block.reset.cfgSavedValid = false ∧ Block.reset.lineHeld = false := by decide

theorem test_witness_OpenAndGetcfgSteps :
    State.reset.line.present = true ∧ ({ Line.std with present := false } : Line).present = false ∧
    State.reset.line.getOk = true ∧ ({ Line.std with getOk := false } : Line).getOk = false := by decide

theorem test_witness_SetcfgStep :
    lineSupports State.reset.params (rawCfg (session codeSetcfg).cfgSaved (session codeSetcfg).sessionBaud.toNat) = true ∧
    State.reset.line.setOk = true ∧ ({ Line.std with setOk := false } : Line).setOk = false ∧
    lineSupports { Params.default with lineSupport := .rates [115200] } (rawCfg exampleCfg 2000) = false := by
  decide

theorem test_witness_RestoreStep :
    lineSupports State.reset.params (session codeRestore).cfgSaved = true ∧ State.reset.line.setOk = true ∧
    ({ Line.std with setOk := false } : Line).setOk = false ∧
    ({ session codeRestore with result := .fault } : Block).result = .fault ∧
    ({ session codeRestore with result := .cancelled } : Block).result ≠ .fault := by decide

theorem test_witness_RxByteAnswers :
    Line.std.rxq = [] ∧ ({ Line.std with rxq := [.byte 0#8, .error] } : Line).rxq = .byte 0#8 :: [.error] ∧
    ({ Line.std with rxq := [.error] } : Line).rxq = .error :: [] ∧
    ({ Line.std with rxq := [.closed] } : Line).rxq = .closed :: [] ∧
    ({ Line.std with rxq := [.closed] } : Line).rxq ≠ [] := by decide

theorem test_witness_RxCountIsHeadRun :
    (sessionRx (session codeProbe) [.byte 1#8, .byte 2#8, .error, .byte 3#8]).line.rxq =
      [1#8, 2#8].map RxEntry.byte ++ [.error, .byte 3#8] ∧ (∀ b q, [RxEntry.error, .byte 3#8] ≠ .byte b :: q) :=
  ⟨rfl, fun _ _ h => nomatch h⟩

theorem test_witness_WaitingStates :
    (withBlk { session codeSettle with timer := 1 }).blk.timer ≠ 0 ∧ (withBlk (session codeSettle)).blk.timer = 0 := by
  decide

theorem test_witness_PulseStep :
    (session codePulse).idx.toNat ≤ (session codePulse).pulses.toNat ∧
    ({ session codePulse with idx := 1#32 } : Block).idx.toNat ≤ (session codePulse).pulses.toNat ∧
    (session codePulse).pulses.toNat < ({ session codePulse with idx := 2#32 } : Block).idx.toNat := by decide

theorem test_witness_FrameSendingSteps :
    [0x50#8, 0x00#8, 0x08#8, 0x00#8, 0x38#8, 0xF0#8, 0x00#8, 0x20#8, 0x00#8, 0x00#8, 0x00#8, 0x18#8][(11#32).toNat]? =
      some 0x18#8 ∧ ({ session codeHshake with idx := 12#32 } : Block).idx = 12#32 ∧ 12 < (13#32).toNat ∧
    [0x10#8, 0x00#8, 0x00#8, 0x00#8][(0#32).toNat]? = some 0x10#8 ∧
    ({ session codeInfoTx with idx := 4#32 } : Block).idx = 4#32 ∧ 4 < (5#32).toNat := by decide

theorem test_witness_SyncResponseSteps :
    (sessionRx (session codeAckO) [.byte 0x4F#8, .error]).line.rxq = .byte 0x4F#8 :: [.error] ∧
    (withBlk (session codeAckK)).line.rxq = [] ∧
    (sessionRx (session codeAckK) [.error]).line.rxq = .error :: [] ∧
    (sessionRx (session codeAckK) [.closed]).line.rxq = .closed :: [] ∧
    ({ session codeDrain with idx := 2#32 } : Block).idx.toNat < 3 ∧
    (sessionRx (session codeDrain) [.byte 0x4F#8]).line.rxq = .byte 0x4F#8 :: [] ∧
    ({ session codeDrain with idx := 3#32 } : Block).idx = 3#32 := by decide

/-- The four states at their last byte, and the three heads of the queue. -/
theorem test_witness_ReceiveHoldsAndFaults :
    ({ session codeDrain with idx := 2#32 } : Block).idx.toNat < 3 ∧
    ({ session codeInfoAck with idx := 1#32 } : Block).idx.toNat < 2 ∧
    ({ session codeInfoLen with idx := 1#32 } : Block).idx.toNat < 2 ∧
    ({ session codeInfoPay with idx := 0xFFFE#32 } : Block).idx.toNat < (0xFFFF#16).toNat ∧
    (withBlk (session codeDrain)).line.rxq = [] ∧ (sessionRx (session codeDrain) [.error]).line.rxq = .error :: [] ∧
    (sessionRx (session codeDrain) [.closed]).line.rxq = .closed :: [] := by decide

theorem test_witness_InfoAckStep :
    (session codeInfoAck).idx = 0#32 ∧ ({ session codeInfoAck with idx := 1#32 } : Block).idx = 1#32 ∧
    ({ session codeInfoAck with idx := 2#32, ackb := 0x4B4F#16 } : Block).ackb = 0x4B4F#16 ∧
    ({ session codeInfoAck with idx := 2#32, ackb := 0x4F4B#16 } : Block).ackb ≠ 0x4B4F#16 ∧
    (sessionRx (session codeInfoAck) [.byte 0#8]).line.rxq = .byte 0#8 :: [] := by decide

/-- The five clauses of S_INFO_LEN, with L at PAYLOAD_CAP and one above it. -/
theorem test_witness_InfoLenStep :
    (session codeInfoLen).idx = 0#32 ∧ ({ session codeInfoLen with idx := 1#32 } : Block).idx = 1#32 ∧
    ({ session codeInfoLen with idx := 2#32 } : Block).idx = 2#32 ∧
    ({ Params.default with payloadCap := 16 } : Params).payloadCap < (17#16).toNat ∧
    (session codeInfoLen).infoLen = 0#16 ∧ 16#16 ≠ 0#16 ∧
    (16#16).toNat ≤ ({ Params.default with payloadCap := 16 } : Params).payloadCap ∧
    (sessionRx (session codeInfoLen) [.byte 0#8]).line.rxq = .byte 0#8 :: [] := by decide

theorem test_witness_InfoPayStep :
    (session codeInfoPay).payload.wf = true ∧ (4#16).toNat ≤ State.reset.params.payloadCap ∧
    ({ session codeInfoPay with idx := 3#32 } : Block).idx.toNat < (4#16).toNat ∧
    ({ session codeInfoPay with idx := 4#32 } : Block).idx.toNat = (4#16).toNat ∧
    (sessionRx (session codeInfoPay) [.byte 0#8]).line.rxq = .byte 0#8 :: [] := by decide

theorem test_witness_FailchkStep :
    ({ session codeFailchk with cancelFlag := true } : Block).cancelFlag = true ∧
    (session codeFailchk).cancelFlag = false := by decide

theorem test_witness_TimerEvents : (withBlk { session codeSettle with timer := 0 }).rst = false := rfl

/-- Each state with its frame begun and not out, out (IDX at its end), and beyond it, under each answer of LINE. -/
theorem test_witness_FramesGoOut :
    (session codeIdle).state ≠ 0x04#5 ∧ (session codeIdle).state ≠ 0x06#5 ∧ (session codeIdle).state ≠ 0x0D#5 ∧
    (sessionTx (session codePulse) .ok false).line.txReady = false ∧
    (sessionTx (session codePulse) .error true).line.txState = .error ∧
    (sessionTx (session codePulse) .closed true).line.txState = .closed ∧
    (withBlk (session codePulse)).line.txState = .ok ∧ (withBlk (session codePulse)).line.txReady = true ∧
    (session codePulse).state = 0x04#5 ∧ (session codePulse).idx.toNat < (session codePulse).pulses.toNat ∧
    ({ session codePulse with idx := 1#32 } : Block).idx = (session codePulse).pulses ∧
    (session codePulse).pulses.toNat < ({ session codePulse with idx := 2#32 } : Block).idx.toNat ∧
    (session codeHshake).state = 0x06#5 ∧ ({ session codeHshake with idx := 11#32 } : Block).idx.toNat < 12 ∧
    ({ session codeHshake with idx := 12#32 } : Block).idx = 12#32 ∧ 12 < (13#32).toNat ∧
    (session codeInfoTx).state = 0x0D#5 ∧ ({ session codeInfoTx with idx := 3#32 } : Block).idx.toNat < 4 ∧
    ({ session codeInfoTx with idx := 4#32 } : Block).idx = 4#32 ∧ 4 < (5#32).toNat := by decide

theorem test_witness_FrameIsItsSteps :
    (withBlk (session codeHshake)).rst = false ∧ (withBlk (session codeHshake)).line.txState = .ok ∧
    (sessionTx (session codeHshake) .closed true).line.txState ≠ .ok ∧ (session codeHshake).state = 0x06#5 ∧
    ({ session codeHshake with idx := 12#32 } : Block).idx.toNat ≤ 12 ∧
    ({ session codeHshake with idx := 11#32 } : Block).idx.toNat < 12 ∧ (session codeInfoTx).state = 0x0D#5 ∧
    ({ session codeInfoTx with idx := 4#32 } : Block).idx.toNat ≤ 4 ∧
    ({ session codeInfoTx with idx := 3#32 } : Block).idx.toNat < 4 ∧ (session codePulse).state = 0x04#5 ∧
    (session codePulse).idx.toNat < (session codePulse).pulses.toNat := by decide

/-- With one pulse, and with none (a session below 2000 baud). -/
theorem test_witness_PulseTrainRuns :
    (withBlk (session codePulse)).rst = false ∧ (session codePulse).state = 0x04#5 ∧ (session codePulse).idx = 0#32 ∧
    (withBlk (session codePulse)).line.txState = .ok ∧ (withBlk (session codePulse)).line.txReady = true ∧
    ({ session codePulse with sessionBaud := 1999#32, pulses := 0#32 } : Block).pulses.toNat = 0 := by decide

theorem test_witness_SyncInOneAttempt :
    (session codeProbe).state = 0x07#5 ∧ (session codeProbe).timer = 0 ∧
    (sessionRx (session codeProbe) (rxBytes [0x4F#8, 0x4B#8, 1#8, 2#8, 3#8])).line.rxq =
      .byte 0x4F#8 :: .byte 0x4B#8 :: .byte 1#8 :: .byte 2#8 :: .byte 3#8 :: [] := by decide

/-- With E8's payload, and with E9's empty one. -/
theorem test_witness_InfoResponseDecoded :
    (session codeInfoAck).state = 0x0E#5 ∧ (session codeInfoAck).idx = 0#32 ∧
    (session codeInfoAck).payload.wf = true ∧ (session codeInfoAck).payCount = 0#16 ∧
    [0xDE#8, 0xAD#8, 0xBE#8, 0xEF#8].length = (4#16).toNat ∧ (4#16).toNat ≤ State.reset.params.payloadCap ∧
    (sessionRx (session codeInfoAck) (rxBytes [0x4F#8, 0x4B#8, 4#8, 0#8, 0xDE#8, 0xAD#8, 0xBE#8, 0xEF#8])).line.rxq =
      .byte 0x4F#8 :: .byte 0x4B#8 :: .byte ((4#16).extractLsb' 0 8) :: .byte ((4#16).extractLsb' 8 8) ::
        ([0xDE#8, 0xAD#8, 0xBE#8, 0xEF#8].map .byte ++ []) ∧
    ([] : List Byte).length = (0#16).toNat := by decide

theorem test_witness_HoldsForEver :
    (withBlk (session codeAckK)).line.rxq = [] ∧ (session codeAckK).state = 0x09#5 ∧ (session codeDrain).state = 0x0A#5 ∧
    ({ session codeDrain with idx := 2#32 } : Block).idx.toNat < 3 ∧ (session codeInfoPay).state = 0x10#5 ∧
    (session codeInfoPay).idx.toNat < ({ session codeInfoPay with infoLen := 1#16 } : Block).infoLen.toNat ∧
    (sessionTx (session codePulse) .ok false).line.txState = .ok ∧
    (sessionTx (session codePulse) .ok false).line.txReady = false ∧
    (session codePulse).idx.toNat < (session codePulse).pulses.toNat ∧
    ({ session codeHshake with idx := 11#32 } : Block).idx.toNat < 12 := by decide

theorem test_witness_SettleTakesItsTicks :
    (session codeSettle).state = 0x05#5 ∧ ({ session codeSettle with timer := 1 } : Block).timer = 0 + 1 ∧
    ([.clk, .seq] : List Event) = List.replicate (0 + 1) .clk ++ [.seq] := by decide

/-- Three fair untimed runs: the expiry, the SEQ step that ends the wait, then a hold for ever where LINE stalls (S_HSHAKE,
S_PULSE) or falls silent after 4F (S_ACK_K). -/
def settleRun : Nat → State
  | 0 => sessionTx { session codeSettle with timer := 7 } .ok false
  | 1 => sessionTx (session codeSettle) .ok false
  | _ + 2 => sessionTx (session codeHshake) .ok false

def backoffRun : Nat → State
  | 0 => sessionTx { session codeBackoff with timer := 7 } .ok false
  | 1 => sessionTx (session codeBackoff) .ok false
  | _ + 2 => sessionTx { session codePulse with attempts := 2#32 } .ok false

def probeRun : Nat → State
  | 0 => sessionRx { session codeProbe with timer := 7 } [.byte 0x4F#8]
  | 1 => sessionRx (session codeProbe) [.byte 0x4F#8]
  | 2 => sessionRx (session codeAckO) [.byte 0x4F#8]
  | _ + 3 => sessionRx (session codeAckK) []

/-- Their events. -/
def fairEvents : Nat → Event
  | 0 => .expire
  | _ + 1 => .seq

theorem test_fairEvents :
    (∀ n, fairEvents n ≠ .tick ∧ fairEvents n ≠ .clk) ∧ (∀ k, ∃ m, k ≤ m ∧ fairEvents m = .seq) :=
  ⟨by rintro (_ | n) <;> exact ⟨nofun, nofun⟩, fun k => ⟨k + 1, Nat.le_succ k, rfl⟩⟩

/-- One run per clause; each also has rst 0 throughout and the SEQ steps of test_fairEvents. -/
theorem test_witness_FairWaitsEnd :
    (untimedRun settleRun fairEvents ∧ (∀ m, 0 ≤ m → (settleRun m).rst = false) ∧ (settleRun 0).blk.state = 0x05#5) ∧
    (untimedRun backoffRun fairEvents ∧ (∀ m, 0 ≤ m → (backoffRun m).rst = false) ∧ (backoffRun 0).blk.state = 0x0C#5) ∧
    (untimedRun probeRun fairEvents ∧ (∀ m, 0 ≤ m → (probeRun m).rst = false) ∧ (probeRun 0).blk.state = 0x07#5) := by
  refine ⟨⟨⟨?_, test_fairEvents.1, weaklyFair_of_expired 2 fun n => rfl⟩, ?_, rfl⟩,
    ⟨⟨?_, test_fairEvents.1, weaklyFair_of_expired 2 fun n => rfl⟩, ?_, rfl⟩,
    ⟨⟨?_, test_fairEvents.1, weaklyFair_of_expired 3 fun n => rfl⟩, ?_, rfl⟩⟩ <;>
  rintro (_ | _ | _ | n) <;> first | rfl | exact fun _ => rfl

/-- A session in S_INFO_PAY with one byte of two stored and the second queued. -/
def payState : State := { sessionRx { session codeInfoPay with
  infoLen := 2#16, idx := 1#32, payCount := 1#16, payload := [(0, 7#8)] } [.byte 8#8] with inputs := [.seq] }

theorem test_witness_StepKeepsInv : machineInv payState ∧ after (step payState) (·.blk.payCount) = some 2#16 := by
  refine ⟨⟨⟨?_, ?_, ?_, ?_, ?_, ?_, ?_, ?_, ?_, ?_⟩, ⟨?_, ?_, ?_, ?_, ?_, ?_, ?_, ?_, ?_, ?_, ?_, ?_, ?_⟩, ⟨?_, ?_⟩,
    ⟨?_, ?_⟩, ?_, ?_⟩, ?_⟩ <;> first | decide | exact fun _ => by decide | exact fun h => absurd h (by decide)

/-- The invariant's state may also refuse, as HOST provokes it. -/
theorem test_witness_StepIsSafe :
    machineInv payState ∧ refusal (payState.perform (.host 8 0#50)) = some .accessWidth :=
  ⟨test_witness_StepKeepsInv.1, by decide⟩

theorem test_witness_RegistersHaveTheirWriters :
    after (exec .sInfoPay (sessionRx { session codeInfoPay with infoLen := 2#16 } [.byte 7#8])) (·.blk.payCount) =
      some 1#16 ∧ after (exec (.baudWr 1#32) State.reset) (·.blk.baud) = some 1#32 := by decide

theorem test_witness_StreamsKeepTheirOrder :
    after ((sessionRx (session codeAckO) [.byte 0x4F#8, .byte 0x4B#8]).perform .seq) (·.line.rxq) = some [.byte 0x4B#8] ∧
    after ((withBlk (session codePulse)).perform .seq) (·.line.txlog) = some [0x55#8] := by decide

/-- A byte that waits for the wire, and none; a line the block does not hold, and one it holds. -/
theorem test_witness_LineStepsTouchOnlyLine :
    ({ Line.std with txlog := [0x55#8] } : Line).onWire < ({ Line.std with txlog := [0x55#8] } : Line).txlog.length ∧
    ({ Line.std with txlog := [0x55#8], onWire := 1 } : Line).txlog.length ≤ 1 ∧
    State.reset.blk.lineHeld = false ∧ (session codeGetcfg).lineHeld = true := by decide

theorem test_witness_OnlyFailchkReadsCancel :
    (withBlk (session codeBackoff)).blk.state ≠ 0x0B#5 ∧
    after ((withBlk (session codeBackoff)).perform .seq) (·.blk.state) = some 0x04#5 := by decide

theorem test_witness_SessionIgnoresBaud :
    after ((withBlk (session codeSetcfg)).perform .seq) (·.line.cfg.baud) = some 2000 := by decide

theorem test_witness_SynchronizedIsTerminal :
    machineInv payState ∧ payState.blk.busy = true ∧ payState.blk.synced = true ∧ (∀ level, Event.seq ≠ .rst level) ∧
    after (payState.perform .seq) (·.blk.state) = some 0x10#5 :=
  ⟨test_witness_StepKeepsInv.1, by decide, by decide, fun _ h => (by cases h), by decide⟩

/-- The restoring step, from a state that meets the invariant. -/
theorem test_witness_RestoreIsOwedUntilMade :
    machineInv (withBlk { session codeRestore with result := .success }) ∧ (session codeRestore).cfgSavedValid = true ∧
    after ((withBlk { session codeRestore with result := .success }).perform .seq) (·.line.reqlog) =
      some [.cfgSet exampleCfg true, .close] := by
  refine ⟨⟨⟨?_, ?_, ?_, ?_, ?_, ?_, ?_, ?_, ?_, ?_⟩, ⟨?_, ?_, ?_, ?_, ?_, ?_, ?_, ?_, ?_, ?_, ?_, ?_, ?_⟩, ⟨?_, ?_⟩,
    ⟨?_, ?_⟩, ?_, ?_⟩, ?_, ?_⟩ <;> first | decide | exact fun _ => by decide | exact fun h => absurd h (by decide)

end Sys2Proof.Tests
end

section
/-! SUPPORT. What each event does to the machine, one rule per event: which instruction a SEQ step runs, what a HOST access
can answer, and that received bytes are queued as they came (20_memory R71, 30_encoding R91, R94, R98). -/

namespace Sys2Proof.Machine

/-! ## Which meaning an event selects -/

/-- The codes R98 of 30_encoding defines are those up to 0x12. -/
theorem definedCode_cases : ∀ c : StateCode, c.toNat ≤ 18 →
    c = codeIdle ∨ c = codeOpen ∨ c = codeGetcfg ∨ c = codeSetcfg ∨ c = codePulse ∨ c = codeSettle ∨ c = codeHshake ∨
    c = codeProbe ∨ c = codeAckO ∨ c = codeAckK ∨ c = codeDrain ∨ c = codeFailchk ∨ c = codeBackoff ∨ c = codeInfoTx ∨
    c = codeInfoAck ∨ c = codeInfoLen ∨ c = codeInfoPay ∨ c = codeRestore ∨ c = codeDone := by decide

/-- A SEQ step runs the instruction that a code names; every code names one. -/
@[simp] theorem State.runEncoded_seq (s : State) (c : StateCode) : s.runEncoded (.seq c) = exec (decodeSeq c) s := rfl

/-- Outside reset a SEQ step runs the instruction of STATE's code (10_state R21). -/
theorem State.perform_seq {s : State} (hrst : s.rst = false) : s.perform .seq = exec (decodeSeq s.blk.state) s := by
  simp [State.perform, hrst]

/-- A sample of `cancel_in` acts exactly when it is 1 (44_host_interface R203). -/
theorem State.runEncoded_pin (s : State) (level : BitVec 1) :
    s.runEncoded (.pin level) = .next (if level = 1#1 then s.hostCancel else s) := by
  by_cases h : level = 1#1 <;> simp [State.runEncoded, decode, h, exec, execCancelIn, State.onReject]

/-- A HOST access is 32 bits wide, or refused (20_memory R66). -/
theorem State.runEncoded_host (s : State) (width : Nat) (w : TxnWord) :
    s.runEncoded (.host width w) = if width = 32 then exec (decodeHost w) s else .refused .accessWidth := by
  by_cases h : width = 32 <;> simp [State.runEncoded, decode, h, State.onReject]

/-- Bytes said to be sent are one of the block's three frames, or refused (30_encoding R90; log 28). -/
theorem State.runEncoded_wireOut_cases (s : State) (bs : List Byte) :
    s.runEncoded (.wireOut bs) = execPulse s ∨ s.runEncoded (.wireOut bs) = execHandshake s ∨
    s.runEncoded (.wireOut bs) = execInfoCmd s ∨ s.runEncoded (.wireOut bs) = .refused .notSent := by
  simp only [State.runEncoded, decode, decodeWireOut]
  by_cases hp : bs = [pulseByte]
  · exact .inl (by rw [if_pos hp]; rfl)
  by_cases hh : bs = handshakeFrame
  · exact .inr (.inl (by rw [if_neg hp, if_pos hh]; rfl))
  by_cases hi : bs = infoCmdFrame
  · exact .inr (.inr (.inl (by rw [if_neg hp, if_neg hh, if_pos hi]; rfl)))
  · exact .inr (.inr (.inr (by rw [if_neg hp, if_neg hh, if_neg hi]; rfl)))

/-! ## Received bytes -/

theorem ackValid_iff {a0 a1 : Byte} : ackValid a0 a1 = true ↔ a0 = ackO ∧ a1 = ackK := by
  simp [ackValid]

/-- The first wire byte of a length is its low byte (30_encoding R87). -/
theorem len16_low (b0 b1 : Byte) : (len16 b0 b1).extractLsb' 0 8 = b0 := by
  apply BitVec.eq_of_getLsbD_eq
  intro i hi
  simp [len16]
  grind

/-- The second wire byte of a length is its high byte (30_encoding R87). -/
theorem len16_high (b0 b1 : Byte) : (len16 b0 b1).extractLsb' 8 8 = b1 := by
  apply BitVec.eq_of_getLsbD_eq
  intro i hi
  simp [len16]
  grind

/-- A valid sync response is the bytes it was decoded from. -/
theorem decodeSync_cases (bs : List Byte) :
    (∃ t0 t1 t2, decodeSync bs = .ok (.syncAck t0 t1 t2) ∧ syncBytes t0 t1 t2 = bs) ∨
    decodeSync bs = .error .notSyncResponse := by
  unfold decodeSync
  split
  · rename_i a0 a1 t0 t1 t2
    split
    · rename_i hack
      obtain ⟨rfl, rfl⟩ := ackValid_iff.1 hack
      exact .inl ⟨t0, t1, t2, rfl, rfl⟩
    · exact .inr rfl
  · exact .inr rfl

/-- A valid info response is the bytes it was decoded from. -/
theorem decodeInfo_cases (bs : List Byte) :
    (∃ len payload, decodeInfo bs = .ok (.infoResp len payload) ∧ infoBytes len payload = bs) ∨
    decodeInfo bs = .error .notInfoResponse := by
  unfold decodeInfo
  split
  · rename_i a0 a1 l0 l1 payload
    split
    · rename_i hvalid
      obtain ⟨hack, -⟩ := Bool.and_eq_true_iff.1 hvalid
      obtain ⟨rfl, rfl⟩ := ackValid_iff.1 hack
      refine .inl ⟨_, payload, rfl, ?_⟩
      rw [infoBytes, len16_low, len16_high]
    · exact .inr rfl
  · exact .inr rfl

/-- Whatever the peer sends for the sync reader is queued as it came, valid or not (30_encoding R91; log 10, log 12). -/
theorem State.runEncoded_syncIn (s : State) (bs : List Byte) :
    s.runEncoded (.syncIn bs) = .next (s.setLine (s.line.append (rxBytes bs))) := by
  rcases decodeSync_cases bs with ⟨t0, t1, t2, h, rfl⟩ | h <;>
    simp [State.runEncoded, decode, h, exec, execSyncAck, State.onReject]

/-- Whatever the peer sends for the info reader is queued as it came, valid or not (30_encoding R91; log 10, log 12). -/
theorem State.runEncoded_infoIn (s : State) (bs : List Byte) :
    s.runEncoded (.infoIn bs) = .next (s.setLine (s.line.append (rxBytes bs))) := by
  rcases decodeInfo_cases bs with ⟨len, payload, h, rfl⟩ | h <;>
    simp [State.runEncoded, decode, h, exec, execInfoResp, State.onReject]

/-! ## HOST accesses -/

@[simp] theorem State.hostCancel_state (s : State) : s.hostCancel.blk.state = s.blk.state := by
  rcases s.hostCancel_cases with ⟨_, h⟩ | ⟨_, h⟩ <;> rw [h]

@[simp] theorem State.hostCancel_timer (s : State) : s.hostCancel.blk.timer = s.blk.timer := by
  rcases s.hostCancel_cases with ⟨_, h⟩ | ⟨_, h⟩ <;> rw [h]

/-- START is ignored while busy (44_host_interface R204). -/
theorem State.hostStart_of_busy {s : State} (hbusy : s.blk.busy = true) : s.hostStart = s := if_pos hbusy

/-- What HOST can get for an aligned access: a next state which, while the block is busy, has STATE and TIMER as they were. -/
def HostServed (s : State) (r : Result) : Prop :=
  ∃ t, r = .next t ∧ (s.blk.busy = true → t.blk.state = s.blk.state ∧ t.blk.timer = s.blk.timer)

theorem HostServed.of_keeps {s t : State} (hstate : t.blk.state = s.blk.state) (htimer : t.blk.timer = s.blk.timer) :
    HostServed s (.next t) := ⟨t, rfl, fun _ => ⟨hstate, htimer⟩⟩

theorem execStart_served (data : Word) (s : State) : HostServed s (execStart data s) := by
  refine ⟨_, rfl, fun hbusy => ?_⟩
  rw [State.hostStart_of_busy hbusy]
  split <;> simp

theorem exec_decodeCtrl_served (data : Word) (s : State) : HostServed s (exec (decodeCtrl data) s) := by
  unfold decodeCtrl
  split
  · exact execStart_served data s
  split
  · exact .of_keeps s.hostCancel_state s.hostCancel_timer
  · exact .of_keeps rfl rfl

/-- Below the window a write is a CTRL write, or it leaves STATE and TIMER alone (44_host_interface R205, R216). -/
theorem exec_decodeWrite_served (idx : BitVec 14) (data : Word) (s : State) :
    HostServed s (exec (decodeWrite idx data) s) := by
  unfold decodeWrite
  split
  · exact exec_decodeCtrl_served data s
  all_goals exact .of_keeps rfl rfl

/-- A read drives the read data and nothing else (20_memory R67). -/
theorem exec_decodeRead_served (idx : BitVec 14) (data : Word) (s : State) :
    HostServed s (exec (decodeRead idx data) s) := by
  unfold decodeRead
  split <;> exact .of_keeps rfl rfl

/-- A 32-bit HOST access is refused as misaligned, or served (20_memory R61, R66). -/
theorem exec_decodeHost_cases (w : TxnWord) (s : State) :
    exec (decodeHost w) s = .refused .misaligned ∨ HostServed s (exec (decodeHost w) s) := by
  simp only [decodeHost, decodeFields]
  split
  · exact .inl rfl
  split
  · exact .inl rfl
  split
  · split <;> exact .inr (.of_keeps rfl rfl)
  split
  · exact .inr (exec_decodeWrite_served ..)
  · exact .inr (exec_decodeRead_served ..)

end Sys2Proof.Machine
end

section
/-! PROOF of StepIsSafe. A SEQ step could stop only on a reserved code or on an IDX beyond its transfer, and the invariant
excludes both; a frame being sent steps through the same transfer. -/

namespace Sys2Proof.Machine

/-! ## Transfers within their bounds complete -/

/-- A transmit step completes when the frame has a byte at every index below its length. -/
theorem txTransfer_completes {n : Nat} {frame : Nat → Option Byte} (done : State → State) {s : State}
    (hframe : ∀ i < n, frame i ≠ none) (hidx : s.blk.idx.toNat ≤ n) : Completes (txTransfer n frame done s) := by
  rcases txTransfer_stop (n := n) (frame := frame) (done := done) (s := s) with hnext | ⟨hne, hnone, -⟩
  · exact hnext
  · exact absurd hnone (hframe _ (by omega))

/-- A receive step completes when every byte below the transfer's length can be put. -/
theorem rxTransfer_completes {n : Nat} {put : Nat → Byte → Block → Except Fault Block} (done : State → State) {s : State}
    (hput : ∀ i < n, ∀ b f, put i b s.blk ≠ .error f) (hidx : s.blk.idx.toNat ≤ n) :
    Completes (rxTransfer n put done s) := by
  rcases rxTransfer_stop (n := n) (put := put) (done := done) (s := s) with hnext | ⟨hne, b, f, herror, -⟩
  · exact hnext
  · exact absurd herror (hput _ (by omega) b f)

/-- A transmit step that moves IDX leaves it within the frame. -/
theorem txTransfer_idx_le {n : Nat} {frame : Nat → Option Byte} {s t : State}
    (hidx : s.blk.idx.toNat ≤ n) (hne : s.blk.idx.toNat ≠ n) (h : txTransfer n frame id s = .next t)
    (hmoved : t.blk.idx ≠ s.blk.idx) : t.blk.idx.toNat ≤ n := by
  rcases txTransfer_next h with ⟨heq, -⟩ | ⟨-, b, -, -, -, rfl⟩ | ⟨-, -, -, rfl⟩ | ⟨-, -, rfl⟩ | ⟨-, -, rfl⟩
  · exact absurd heq hne
  · rw [State.setIdx_blk, BitVec.toNat_add]
    exact (Nat.mod_le _ _).trans (Nat.lt_of_le_of_ne hidx hne)
  · exact absurd rfl hmoved
  · exact absurd (by rw [State.raiseFault_blk]) hmoved
  · exact absurd (by rw [State.raiseFault_blk]) hmoved

theorem sendFrame_completes {n : Nat} {frame : Nat → Option Byte} (fuel : Nat) {s : State}
    (hframe : ∀ i < n, frame i ≠ none) (hidx : s.blk.idx.toNat ≤ n) : Completes (sendFrame frame n fuel s) :=
  sendFrame_stop (P := fun s => s.blk.idx.toNat ≤ n) (fun _ _ => txTransfer_idx_le)
    (fun _ hle hne => hframe _ (Nat.lt_of_le_of_ne hle hne)) fuel s hidx

theorem pulseTrain_some {n i : Nat} (h : i < n) : pulseTrain n i ≠ none := by simp [pulseTrain, h]

theorem handshakeAt_some : ∀ i < 12, handshakeAt i ≠ none := by decide

theorem infoCmdAt_some : ∀ i < 4, infoCmdAt i ≠ none := by decide

theorem putAck_ok (k : Block) : ∀ i < 2, ∀ b f, putAck i b k ≠ .error f
  | 0, _, _, _ => nofun
  | 1, _, _, _ => nofun

theorem putLen_ok (k : Block) : ∀ i < 2, ∀ b f, putLen i b k ≠ .error f
  | 0, _, _, _ => nofun
  | 1, _, _, _ => nofun

theorem putPay_ok {cap i : Nat} (h : i < cap) (b : Byte) (k : Block) (f : Fault) : putPay cap i b k ≠ .error f := by
  simp [putPay, h]

theorem execSPulse_completes {s : State} (hidx : s.blk.idx.toNat ≤ s.blk.pulses.toNat) : Completes (execSPulse s) :=
  txTransfer_completes _ (fun _ => pulseTrain_some) hidx

theorem execSHshake_completes {s : State} (hidx : s.blk.idx.toNat ≤ 12) : Completes (execSHshake s) :=
  txTransfer_completes _ handshakeAt_some hidx

theorem execSDrain_completes {s : State} (hidx : s.blk.idx.toNat ≤ 3) : Completes (execSDrain s) :=
  rxTransfer_completes _ (fun _ _ _ _ => nofun) hidx

theorem execSInfoTx_completes {s : State} (hidx : s.blk.idx.toNat ≤ 4) : Completes (execSInfoTx s) :=
  txTransfer_completes _ infoCmdAt_some hidx

theorem execSInfoAck_completes {s : State} (hidx : s.blk.idx.toNat ≤ 2) : Completes (execSInfoAck s) :=
  rxTransfer_completes _ (putAck_ok s.blk) hidx

theorem execSInfoLen_completes {s : State} (hidx : s.blk.idx.toNat ≤ 2) : Completes (execSInfoLen s) :=
  rxTransfer_completes _ (putLen_ok s.blk) hidx

theorem execSInfoPay_completes {s : State} (hcap : s.blk.infoLen.toNat ≤ s.params.payloadCap)
    (hidx : s.blk.idx.toNat ≤ s.blk.infoLen.toNat) : Completes (execSInfoPay s) :=
  rxTransfer_completes _ (fun _ hi b f => putPay_ok (hi.trans_le hcap) b s.blk f) hidx

/-! ## The states outside the transfers always complete -/

theorem Completes.of_ite (p : Prop) [Decidable p] (t u : State) : Completes (if p then .next t else .next u) := by
  split <;> exact ⟨_, rfl⟩

theorem execSOpen_completes (s : State) : Completes (execSOpen s) := by
  unfold execSOpen
  split <;> exact ⟨_, rfl⟩

theorem execSGetcfg_completes (s : State) : Completes (execSGetcfg s) := by
  unfold execSGetcfg
  split <;> exact ⟨_, rfl⟩

theorem execSSetcfg_completes (s : State) : Completes (execSSetcfg s) := by
  unfold execSSetcfg
  split <;> exact ⟨_, rfl⟩

theorem execSFailchk_completes (s : State) : Completes (execSFailchk s) := .of_ite ..

theorem execSSettle_completes (s : State) : Completes (execSSettle s) := .of_ite ..

theorem execSProbe_completes (s : State) : Completes (execSProbe s) := .of_ite ..

theorem execSBackoff_completes (s : State) : Completes (execSBackoff s) := .of_ite ..

theorem readExpected_completes (want : Byte) (m : BitVec 16) (hit : State → State) (s : State) :
    Completes (readExpected want m hit s) := by
  rcases readExpected_cases want m hit s with ⟨-, h⟩ | ⟨_, -, h⟩ | ⟨_, _, -, -, h⟩ | ⟨_, -, h⟩ | ⟨_, -, h⟩ <;>
    exact ⟨_, h⟩

theorem execSAckO_completes (s : State) : Completes (execSAckO s) := readExpected_completes _ _ _ s

theorem execSAckK_completes (s : State) : Completes (execSAckK s) := readExpected_completes _ _ _ s

/-! ## The frames and the SEQ step -/

section
variable {s : State} (htransfer : transferInv s.params s.blk)
include htransfer

theorem execPulse_completes : Completes (execPulse s) := by
  obtain ⟨-, -, hpulse, -⟩ := htransfer
  unfold execPulse
  split
  · rename_i hc
    exact sendFrame_completes 1 (fun _ => pulseTrain_some) (hpulse hc)
  · exact ⟨s, rfl⟩

theorem execHandshake_completes : Completes (execHandshake s) := by
  obtain ⟨-, -, -, hhshake, -⟩ := htransfer
  unfold execHandshake
  split
  · rename_i hc
    exact sendFrame_completes 12 handshakeAt_some (hhshake hc)
  · exact ⟨s, rfl⟩

theorem execInfoCmd_completes : Completes (execInfoCmd s) := by
  obtain ⟨-, -, -, -, -, hinfoTx, -⟩ := htransfer
  unfold execInfoCmd
  split
  · rename_i hc
    exact sendFrame_completes 4 infoCmdAt_some (hinfoTx hc)
  · exact ⟨s, rfl⟩

/-- In a defined state, with IDX within its transfer, a SEQ step completes. -/
theorem exec_decodeSeq_completes (hcode : s.blk.state.toNat ≤ 18) : Completes (exec (decodeSeq s.blk.state) s) := by
  obtain ⟨-, -, hpulse, hhshake, hdrain, hinfoTx, hinfoAck, hinfoLen, -, -, -, hinfoPay, -⟩ := htransfer
  rcases definedCode_cases _ hcode with hc | hc | hc | hc | hc | hc | hc | hc | hc | hc | hc | hc | hc | hc | hc | hc |
    hc | hc | hc <;> rw [hc]
  · exact ⟨s, rfl⟩
  · exact execSOpen_completes s
  · exact execSGetcfg_completes s
  · exact execSSetcfg_completes s
  · exact execSPulse_completes (hpulse hc)
  · exact execSSettle_completes s
  · exact execSHshake_completes (hhshake hc)
  · exact execSProbe_completes s
  · exact execSAckO_completes s
  · exact execSAckK_completes s
  · exact execSDrain_completes (hdrain hc)
  · exact execSFailchk_completes s
  · exact execSBackoff_completes s
  · exact execSInfoTx_completes (hinfoTx hc)
  · exact execSInfoAck_completes (hinfoAck hc)
  · exact execSInfoLen_completes (hinfoLen hc)
  · obtain ⟨-, hcap, hidx, -⟩ := hinfoPay hc
    exact execSInfoPay_completes hcap hidx
  · exact ⟨_, rfl⟩
  · exact ⟨s, rfl⟩

end

/-! ## Every event -/

theorem SafeResult.of_completes {r : Result} (h : Completes r) : SafeResult r := by
  obtain ⟨t, rfl⟩ := h
  trivial

/-- During reset only a HOST access is refused (70_reset R270). -/
theorem State.duringReset_safe (s : State) (e : Event) : SafeResult (s.duringReset e) := by
  cases e with
  | host => exact .inr (.inr (.inl rfl))
  | _ => trivial

theorem State.runEncoded_host_safe (s : State) (width : Nat) (w : TxnWord) : SafeResult (s.runEncoded (.host width w)) := by
  rw [State.runEncoded_host]
  split
  · rcases exec_decodeHost_cases w s with h | ⟨t, h, -⟩
    · rw [h]
      exact .inl rfl
    · rw [h]
      trivial
  · exact .inr (.inl rfl)

theorem State.runEncoded_wireOut_safe {s : State} (htransfer : transferInv s.params s.blk) (bs : List Byte) :
    SafeResult (s.runEncoded (.wireOut bs)) := by
  rcases s.runEncoded_wireOut_cases bs with h | h | h | h <;> rw [h]
  · exact .of_completes (execPulse_completes htransfer)
  · exact .of_completes (execHandshake_completes htransfer)
  · exact .of_completes (execInfoCmd_completes htransfer)
  · exact .inr (.inr (.inr rfl))

/-- All that safety needs of the invariant is a defined code and the transfer's bounds. -/
theorem State.perform_safe {s : State} (hcode : s.blk.state.toNat ≤ 18) (htransfer : transferInv s.params s.blk)
    (e : Event) : SafeResult (s.perform e) := by
  unfold State.perform
  split
  · exact s.duringReset_safe e
  · cases e with
    | seq => exact .of_completes (exec_decodeSeq_completes htransfer hcode)
    | clk => exact .of_completes (exec_decodeSeq_completes (s := s.timerTick) htransfer hcode)
    | host width w => exact s.runEncoded_host_safe width w
    | pin level => exact .of_completes ⟨_, s.runEncoded_pin level⟩
    | wireOut bs => exact State.runEncoded_wireOut_safe htransfer bs
    | syncIn bs => exact .of_completes ⟨_, s.runEncoded_syncIn bs⟩
    | infoIn bs => exact .of_completes ⟨_, s.runEncoded_infoIn bs⟩
    | line | tick | expire | rst => trivial

/-- Settles O53: the event is performed from a state with the same block and parameters, and there every event is safe. -/
theorem stepIsSafe : Obligations.StepIsSafe := by
  rintro s ⟨⟨hcode, -⟩, htransfer, -⟩
  exact State.perform_safe (by rwa [State.popEvent_blk]) (by rwa [State.popEvent_blk, State.popEvent_params]) s.nextEvent

end Sys2Proof.Machine
end

section
/-! PROOF of FairWaitsEnd. While a timed wait lasts, only its own SEQ step can leave it and nothing restarts TIMER. Weak
fairness makes TIMER expire, it stays expired, and the next SEQ step leaves the wait. -/

namespace Sys2Proof.Machine

/-- The states that wait for the timer (42_sync_negotiator R153, R155, R160). -/
def timedWait (c : StateCode) : Prop := c = codeSettle ∨ c = codeProbe ∨ c = codeBackoff

theorem timedWait.busy {b : Block} (h : timedWait b.state) : b.busy = true := by
  rcases h with h | h | h <;> rw [Block.busy, h] <;> decide

theorem timedWait.not_sending {c : StateCode} (h : timedWait c) : c ≠ codePulse ∧ c ≠ codeHshake ∧ c ≠ codeInfoTx := by
  rcases h with rfl | rfl | rfl <;> decide

/-- A state that sends no frame holds when a trace says the block sent one (log 11). -/
theorem State.runEncoded_wireOut_of_timedWait {s t : State} (hwait : timedWait s.blk.state) {bs : List Byte}
    (h : s.runEncoded (.wireOut bs) = .next t) : t = s := by
  obtain ⟨hpulse, hhshake, hinfoTx⟩ := hwait.not_sending
  have hheld : s.runEncoded (.wireOut bs) = .next s ∨ s.runEncoded (.wireOut bs) = .refused .notSent := by
    rcases s.runEncoded_wireOut_cases bs with h | h | h | h
    · exact .inl (h.trans (if_neg hpulse))
    · exact .inl (h.trans (if_neg hhshake))
    · exact .inl (h.trans (if_neg hinfoTx))
    · exact .inr h
  rcases hheld with heq | heq <;> rw [heq] at h <;> cases h
  rfl

/-- A HOST access moves neither STATE nor TIMER while the block is busy. -/
theorem State.runEncoded_host_of_busy {s t : State} (hbusy : s.blk.busy = true) {width : Nat} {w : TxnWord}
    (h : s.runEncoded (.host width w) = .next t) : t.blk.state = s.blk.state ∧ t.blk.timer = s.blk.timer := by
  rw [State.runEncoded_host] at h
  split at h
  · rcases exec_decodeHost_cases w s with heq | ⟨t', heq, hkeeps⟩ <;> rw [heq] at h <;> cases h
    exact hkeeps hbusy
  · cases h

/-- In a timed wait an event of the untimed model that is neither a SEQ step nor the start of a reset leaves STATE as it is,
and leaves an expired TIMER expired. -/
theorem State.perform_keeps_wait {s t : State} {e : Event} (hwait : timedWait s.blk.state) (hs : s.rst = false)
    (ht : t.rst = false) (hseq : e ≠ .seq) (htick : e ≠ .tick) (hclk : e ≠ .clk) (h : s.perform e = .next t) :
    t.blk.state = s.blk.state ∧ (s.blk.timer = 0 → t.blk.timer = 0) := by
  simp only [State.perform, hs, Bool.false_and, Bool.false_eq_true, if_false] at h
  cases e with
  | seq => exact absurd rfl hseq
  | tick => exact absurd rfl htick
  | clk => exact absurd rfl hclk
  | host width w =>
    obtain ⟨hstate, htimer⟩ := State.runEncoded_host_of_busy hwait.busy h
    exact ⟨hstate, htimer.trans⟩
  | wireOut bs =>
    rw [State.runEncoded_wireOut_of_timedWait hwait h]
    exact ⟨rfl, id⟩
  | pin level =>
    cases (s.runEncoded_pin level).symm.trans h
    split <;> simp
  | syncIn bs =>
    cases (s.runEncoded_syncIn bs).symm.trans h
    exact ⟨rfl, id⟩
  | infoIn bs =>
    cases (s.runEncoded_infoIn bs).symm.trans h
    exact ⟨rfl, id⟩
  | line l =>
    cases h
    exact ⟨rfl, id⟩
  | expire =>
    cases h
    exact ⟨rfl, fun _ => rfl⟩
  | rst level =>
    cases h
    cases level with
    | true => cases ht
    | false => exact ⟨rfl, id⟩

/-- S_SETTLE by TIMER (42_sync_negotiator R153, 60_exceptions R251). -/
theorem execSSettle_eq (s : State) :
    execSSettle s = if s.blk.timer = 0 then .next ((s.setIdx 0#32).goto codeHshake) else .next s := by
  simp [execSSettle, Block.timerExpired]

/-- S_PROBE by TIMER and rxq (42_sync_negotiator R155). -/
theorem execSProbe_eq (s : State) :
    execSProbe s =
      if s.blk.timer = 0 then .next (s.goto (if s.line.rxCount = 0 then codeFailchk else codeAckO)) else .next s := by
  simp [execSProbe, Block.timerExpired]

/-- S_BACKOFF by TIMER (42_sync_negotiator R160). -/
theorem execSBackoff_eq (s : State) :
    execSBackoff s = if s.blk.timer = 0 then .next s.beginAttempt else .next s := by
  simp [execSBackoff, Block.timerExpired]

/-- The code `c` is a timed wait whose SEQ step is `leave` once TIMER has expired, and a hold before. -/
def waitsUntil (c : StateCode) (leave : State → State) : Prop :=
  timedWait c ∧ ∀ s : State, exec (decodeSeq c) s = if s.blk.timer = 0 then .next (leave s) else .next s

theorem settle_waitsUntil : waitsUntil codeSettle fun s => (s.setIdx 0#32).goto codeHshake :=
  ⟨.inl rfl, execSSettle_eq⟩

theorem probe_waitsUntil :
    waitsUntil codeProbe fun s => s.goto (if s.line.rxCount = 0 then codeFailchk else codeAckO) :=
  ⟨.inr (.inl rfl), execSProbe_eq⟩

theorem backoff_waitsUntil : waitsUntil codeBackoff State.beginAttempt := ⟨.inr (.inr rfl), execSBackoff_eq⟩

section
variable {r : Nat → State} {e : Nat → Event} {c : StateCode} {leave : State → State} {n : Nat}

/-- One step of an untimed run in a wait: the wait is left as it should be with TIMER expired, or it goes on and an expired
TIMER stays expired. -/
theorem untimedRun.wait_step (hrun : untimedRun r e) (hwaits : waitsUntil c leave) (hs : (r n).rst = false)
    (ht : (r (n + 1)).rst = false) (hc : (r n).blk.state = c) :
    r (n + 1) = leave (r n) ∨
    (r (n + 1)).blk.state = c ∧ ((r n).blk.timer = 0 → (r (n + 1)).blk.timer = 0 ∧ e n ≠ .seq) := by
  obtain ⟨hsteps, huntimed, -⟩ := hrun
  obtain ⟨hwait, hleave⟩ := hwaits
  have hn := hsteps n
  by_cases hseq : e n = .seq
  · rw [hseq, State.perform_seq hs, hc, hleave] at hn
    split at hn
    · exact .inl (Host.Outcome.next.inj hn).symm
    · rename_i htimer
      rw [← Host.Outcome.next.inj hn]
      exact .inr ⟨hc, fun h => absurd h htimer⟩
  · obtain ⟨hstate, htimer⟩ :=
      State.perform_keeps_wait (hc ▸ hwait) hs ht hseq (huntimed n).1 (huntimed n).2 hn
    exact .inr ⟨hstate.trans hc, fun h => ⟨htimer h, hseq⟩⟩

/-- A timed wait ends, by its own step, in a fair untimed run. -/
theorem untimedRun.wait_ends (hrun : untimedRun r e) (hwaits : waitsUntil c leave) (hseq : ∀ k, ∃ m, k ≤ m ∧ e m = .seq)
    (hrst : ∀ m, n ≤ m → (r m).rst = false) (hc : (r n).blk.state = c) : ∃ m, n ≤ m ∧ r (m + 1) = leave (r m) := by
  by_contra hnever
  have hstep : ∀ m, n ≤ m → (r m).blk.state = c → (r (m + 1)).blk.state = c ∧
      ((r m).blk.timer = 0 → (r (m + 1)).blk.timer = 0 ∧ e m ≠ .seq) := fun m hm hcm =>
    (hrun.wait_step hwaits (hrst m hm) (hrst (m + 1) (Nat.le_succ_of_le hm)) hcm).resolve_left
      fun h => hnever ⟨m, hm, h⟩
  have hstay : ∀ m, n ≤ m → (r m).blk.state = c := fun m hm =>
    Nat.le_induction hc (fun k hk hck => (hstep k hk hck).1) m hm
  obtain ⟨k, hk, hexpired⟩ : ∃ k, n ≤ k ∧ (r k).blk.timer = 0 := by
    obtain ⟨hsteps, -, hfair⟩ := hrun
    obtain ⟨k, hk, hreset | htimer⟩ := weaklyFair_expires hsteps hfair n
    · exact absurd hreset (by simp [hrst k hk])
    · exact ⟨k, hk, htimer⟩
  have hzero : ∀ m, k ≤ m → (r m).blk.timer = 0 := fun m hm =>
    Nat.le_induction hexpired (fun j hj hz => ((hstep j (hk.trans hj) (hstay j (hk.trans hj))).2 hz).1) m hm
  obtain ⟨m, hm, hseqm⟩ := hseq k
  exact ((hstep m (hk.trans hm) (hstay m (hk.trans hm))).2 (hzero m hm)).2 hseqm

end

/-- Settles O37: each of the three waits ends by its own step, and that step's next state is the one the rule names. -/
theorem fairWaitsEnd : Obligations.FairWaitsEnd := by
  intro r e n hrun hseq hrst
  refine ⟨fun hc => ?_, fun hc => ?_, fun hc => ?_⟩
  · obtain ⟨m, hm, hleft⟩ := hrun.wait_ends settle_waitsUntil hseq hrst hc
    exact ⟨m + 1, Nat.lt_succ_of_le hm, by rw [hleft]; rfl⟩
  · obtain ⟨m, hm, hleft⟩ := hrun.wait_ends backoff_waitsUntil hseq hrst hc
    exact ⟨m + 1, Nat.lt_succ_of_le hm, by rw [hleft]; rfl⟩
  · obtain ⟨m, hm, hleft⟩ := hrun.wait_ends probe_waitsUntil hseq hrst hc
    refine ⟨m + 1, Nat.lt_succ_of_le hm, ?_⟩
    rw [hleft, State.goto_blk]
    by_cases hcount : (r m).line.rxCount = 0
    · exact .inr (if_pos hcount)
    · exact .inl (if_neg hcount)

end Sys2Proof.Machine
end

section
/-! PROOF of the tier 1 statements about a step, reset, the flags and LINE's own steps. -/

namespace Sys2Proof.Machine

/-! ## A step -/

/-- Bits that decode run the decoded instruction. -/
theorem State.runEncoded_of_decode {x : Encoded} {i : Instr} (h : decode x = .ok i) (s : State) :
    s.runEncoded x = exec i s := by
  simp [State.runEncoded, h]

/-- Outside reset the next event on the schedule is performed on the rest of it. -/
theorem step_of_schedule {s : State} {e : Event} {rest : List Event} {x : Encoded} {i : Instr} {t : State}
    (hinputs : s.inputs = e :: rest) (hdecode : decode x = .ok i)
    (hperform : State.perform { s with inputs := rest } e = t.runEncoded x) : step s = exec i t := by
  rw [step_cons s e rest hinputs, hperform, State.runEncoded_of_decode hdecode]

/-- Settles O8: the schedule's head is the event, and outside reset each event form runs its own bits. -/
theorem stepRunsDecoded : Obligations.StepRunsDecoded := by
  intro s rest i hrst
  refine ⟨fun width w hin hdec => step_of_schedule hin hdec ?_, fun level hin hdec => step_of_schedule hin hdec ?_,
    fun bs hin hdec => step_of_schedule hin hdec ?_, fun bs hin hdec => step_of_schedule hin hdec ?_,
    fun bs hin hdec => step_of_schedule hin hdec ?_, fun hin hdec => step_of_schedule hin hdec ?_,
    fun hin hdec => step_of_schedule hin hdec ?_⟩
  all_goals simp only [State.perform, hrst, Bool.false_and, Bool.false_eq_true, if_false]
  rfl

/-! ## Reset -/

/-- With PAY_COUNT 0 no window word shows a byte (20_memory R64). -/
theorem Block.windowWord_of_empty {b : Block} (h : b.payCount = 0#16) (k : Nat) : b.windowWord k = 0#32 := by
  simp [Block.windowWord, Block.windowByte, h]

theorem windowWord_reset (k : Nat) : Block.reset.windowWord k = 0#32 := Block.windowWord_of_empty rfl k

/-- Settles O12: a `rst` of 1 leaves exactly the block of State.reset. -/
theorem resetValues : Obligations.ResetValues := by
  intro s
  refine ⟨s.resetPin true, by simp [State.perform, blockedByReset], rfl, rfl, rfl, fun b hb => ?_⟩
  have hreset : b = Block.reset := hb.elim id id
  subst hreset
  exact ⟨rfl, rfl, rfl, rfl, rfl, rfl, rfl, rfl, rfl, rfl, rfl, rfl, rfl, rfl, rfl, rfl, rfl, rfl, rfl, rfl,
    windowWord_reset⟩

/-! ## The flags -/

theorem Block.busy_iff (b : Block) : b.busy = true ↔ b.state ≠ codeIdle ∧ b.state ≠ codeDone := by
  simp [Block.busy]

theorem Block.done_iff (b : Block) : b.done = true ↔ b.state = codeDone := by
  simp [Block.done]

/-- Settles O18. -/
theorem busyAndDone : Obligations.BusyAndDone := by
  refine ⟨fun s => ⟨s.blk.busy_iff, s.blk.done_iff, s.blk.done_iff, fun ⟨hbusy, hdone⟩ => ?_⟩, rfl, rfl⟩
  exact (s.blk.busy_iff.1 hbusy).2 (s.blk.done_iff.1 hdone)

/-- Where each field of STATUS lies (10_state R49). -/
theorem status_layout (cause : BitVec 4) (result : BitVec 2) (restoreFail cancel synced done busy : Bool)
    (state : StateCode) :
    let v : BitVec (4 + 4 + 6 + 2 + 3 + 1 + 1 + 1 + 1 + 1 + 3 + 5) :=
      0#4 ++ cause ++ 0#6 ++ result ++ 0#3 ++ BitVec.ofBool restoreFail ++ BitVec.ofBool cancel ++
        BitVec.ofBool synced ++ BitVec.ofBool done ++ BitVec.ofBool busy ++ 0#3 ++ state
    v.extractLsb' 0 5 = state ∧ v.extractLsb' 5 3 = 0#3 ∧ v.getLsbD 8 = busy ∧ v.getLsbD 9 = done ∧
      v.getLsbD 10 = synced ∧ v.getLsbD 11 = cancel ∧ v.getLsbD 12 = restoreFail ∧ v.extractLsb' 13 3 = 0#3 ∧
      v.extractLsb' 16 2 = result ∧ v.extractLsb' 18 6 = 0#6 ∧ v.extractLsb' 24 4 = cause ∧ v.extractLsb' 28 4 = 0#4 := by
  simp (disch := omega) [BitVec.extractLsb'_append_eq_of_add_le, BitVec.extractLsb'_append_eq_of_le, BitVec.getLsbD_append,
    -Nat.reduceAdd, -BitVec.getLsbD_eq_getElem]

/-- Settles O17: the word is Block.status, whose layout is that of R49. -/
theorem statusRead : Obligations.StatusRead :=
  fun s _ => ⟨s.blk.status, rfl, status_layout s.blk.faultCause.code s.blk.result.code s.blk.restoreFail s.blk.cancelFlag
    s.blk.synced s.blk.done s.blk.busy s.blk.state⟩

/-! ## LINE's own steps -/

/-- A step of LINE's own happens whatever `rst` is (70_reset R272), and the block is not touched. -/
theorem State.perform_line (s : State) (e : LineEvent) :
    s.perform (.line e) = .next (s.setLine (s.line.own s.params s.blk.lineHeld e)) := by
  simp [State.perform, blockedByReset]

/-- Settles O56: LINE's own step, event by event. -/
theorem lineStepsTouchOnlyLine : Obligations.LineStepsTouchOnlyLine := by
  intro s
  simp only [State.perform_line, Host.Outcome.next.injEq]
  refine ⟨fun es => rfl, ?_, fun b => ?_, fun _ => rfl, fun _ => rfl, fun _ => rfl, fun _ => rfl, fun _ => rfl,
    fun h => ?_, fun h => ?_, fun c h => ?_, fun c h => ?_⟩
  · cases h : s.params.rxOverrun <;> simp [State.setLine, Line.own, Line.append, h]
  · cases h : s.params.rxLineErrors <;> simp [State.setLine, Line.own, Line.append, h]
  · simp [State.setLine, Line.own, h]
  · simp [State.setLine, Line.own, Nat.not_lt.2 h]
  · simp [State.setLine, Line.own, h]
  · simp [State.setLine, Line.own, h]

end Sys2Proof.Machine
end

section
/-! PROOF of RegistersHaveTheirWriters. Every transfer and every fault entry moves the same few registers, none of them
listed; beyond those, each instruction writes only what one short lemma per instruction says. -/

namespace Sys2Proof.Machine

/-! ## What every instruction may move -/

/-- `t` differs from `s` at most in what every transfer and fault entry moves: STATE, IDX, the outcome, LINE_HELD, LINE's
streams and the record of requests. -/
def Progress (s t : State) : Prop :=
  ∃ code idx result cause info held rxq txlog reqlog, t = { s with
    blk := { s.blk with
      state := code, idx := idx, result := result, faultCause := cause, faultInfo := info, lineHeld := held }
    line := { s.line with rxq := rxq, txlog := txlog, reqlog := reqlog } }

theorem Progress.refl (s : State) : Progress s s := ⟨_, _, _, _, _, _, _, _, _, rfl⟩

theorem Progress.trans {s t u : State} (h : Progress s t) (h' : Progress t u) : Progress s u := by
  obtain ⟨_, _, _, _, _, _, _, _, _, rfl⟩ := h
  obtain ⟨_, _, _, _, _, _, _, _, _, rfl⟩ := h'
  exact ⟨_, _, _, _, _, _, _, _, _, rfl⟩

theorem Progress.raiseFault (s : State) (cause : Cause) (data : BitVec 16) : Progress s (s.raiseFault cause data) := by
  unfold State.raiseFault
  dsimp only
  split
  · exact ⟨_, _, _, _, _, _, _, _, _, rfl⟩
  split <;> exact ⟨_, _, _, _, _, _, _, _, _, rfl⟩

theorem Progress.goto (s : State) (c : StateCode) : Progress s (s.goto c) := ⟨_, _, _, _, _, _, _, _, _, rfl⟩

theorem Progress.setIdx (s : State) (v : Word) : Progress s (s.setIdx v) := ⟨_, _, _, _, _, _, _, _, _, rfl⟩

theorem Progress.setResult (s : State) (v : SessionResult) : Progress s (s.setResult v) :=
  ⟨_, _, _, _, _, _, _, _, _, rfl⟩

theorem Progress.received (s : State) (rest : List RxEntry) : Progress s (s.setLine { s.line with rxq := rest }) :=
  ⟨_, _, _, _, _, _, _, _, _, rfl⟩

theorem Progress.sent (s : State) (bs : List Byte) : Progress s (s.setLine { s.line with txlog := bs }) :=
  ⟨_, _, _, _, _, _, _, _, _, rfl⟩

theorem Progress.recorded (s : State) (r : LineReq) : Progress s (s.setLine (s.line.record r)) :=
  ⟨_, _, _, _, _, _, _, _, _, rfl⟩

/-! ## The templates -/

/-- A transmit step is its final action, or moves only what every transfer moves. -/
theorem txTransfer_progress {n : Nat} {frame : Nat → Option Byte} {done : State → State} {s t : State}
    (h : txTransfer n frame done s = .next t) : t = done s ∨ Progress s t := by
  rcases txTransfer_next h with ⟨-, rfl⟩ | ⟨-, b, -, -, -, rfl⟩ | ⟨-, -, -, rfl⟩ | ⟨-, -, rfl⟩ | ⟨-, -, rfl⟩
  · exact .inl rfl
  · exact .inr ((Progress.sent s _).trans (.setIdx _ _))
  · exact .inr (.refl _)
  · exact .inr (.raiseFault ..)
  · exact .inr (.raiseFault ..)

/-- A receive step is its final action, or puts one byte into the block and else moves only what every transfer moves. -/
theorem rxTransfer_progress {n : Nat} {put : Nat → Byte → Block → Except Fault Block} {done : State → State} {s t : State}
    (h : rxTransfer n put done s = .next t) :
    t = done s ∨ Progress s t ∨ ∃ i b blk, put i b s.blk = .ok blk ∧ Progress (s.setBlk blk) t := by
  rcases rxTransfer_next h with ⟨-, rfl⟩ | ⟨-, b, rest, blk, -, hput, rfl⟩ | ⟨-, -, rfl⟩ | ⟨-, rest, -, rfl⟩ |
    ⟨-, rest, -, rfl⟩
  · exact .inl rfl
  · exact .inr (.inr ⟨_, b, blk, hput, (Progress.received (s.setBlk blk) rest).trans (.setIdx _ _)⟩)
  · exact .inr (.inl (.refl _))
  · exact .inr (.inl ((Progress.received s rest).trans (.raiseFault ..)))
  · exact .inr (.inl ((Progress.received s rest).trans (.raiseFault ..)))

theorem readExpected_progress {want : Byte} {m : BitVec 16} {hit : State → State} {s t : State}
    (hhit : ∀ u, Progress u (hit u)) (h : readExpected want m hit s = .next t) : Progress s t := by
  rcases readExpected_cases want m hit s with ⟨-, heq⟩ | ⟨rest, -, heq⟩ | ⟨_, rest, -, -, heq⟩ | ⟨rest, -, heq⟩ |
    ⟨rest, -, heq⟩ <;> cases heq.symm.trans h
  · exact .refl _
  · exact (Progress.received s rest).trans (hhit _)
  · exact (Progress.received s rest).trans (.goto ..)
  · exact (Progress.received s rest).trans (.raiseFault ..)
  · exact (Progress.received s rest).trans (.raiseFault ..)

theorem sendFrame_progress {n : Nat} {frame : Nat → Option Byte} {fuel : Nat} {s t : State}
    (h : sendFrame frame n fuel s = .next t) : Progress s t := by
  refine sendFrame_keeps (P := Progress s) (fun u v hu _ hv => hu.trans ?_) fuel s t (.refl s) h
  rcases txTransfer_progress hv with rfl | hprogress
  · exact .refl _
  · exact hprogress

/-- A frame event moves only what every transfer moves (30_encoding R101). -/
theorem sentFrame_progress {p : Prop} [Decidable p] {n : Nat} {frame : Nat → Option Byte} {fuel : Nat} {s t : State}
    (h : (if p then sendFrame frame n fuel s else .next s) = .next t) : Progress s t := by
  split at h
  · exact sendFrame_progress h
  · cases h
    exact .refl _

/-! ## One instruction each: beyond that, what it writes -/

theorem execSOpen_writes {s t : State} (h : execSOpen s = .next t) : Progress s t := by
  unfold execSOpen at h
  simp only [Line.requestOpen] at h
  split at h <;> rename_i hreq <;> cases h <;> obtain ⟨-, rfl⟩ := Prod.mk.inj hreq
  · exact (Progress.recorded s _).trans ⟨_, _, _, _, _, true, _, _, _, rfl⟩
  · exact (Progress.recorded s _).trans (.raiseFault ..)

theorem execSGetcfg_writes {s t : State} (h : execSGetcfg s = .next t) :
    ∃ c valid, Progress (s.setBlk { s.blk with cfgSaved := c, cfgSavedValid := valid }) t := by
  unfold execSGetcfg at h
  rcases s.line.requestCfgGet_cases with ⟨-, heq⟩ | ⟨-, heq⟩ <;> rw [heq] at h <;> cases h
  · exact ⟨s.line.cfg, true, (Progress.recorded _ (.cfgGet true)).trans (.goto _ codeSetcfg)⟩
  · exact ⟨_, _, (Progress.recorded s _).trans (.raiseFault ..)⟩

/-- BeginAttempt counts the attempt and its pulses (42_sync_negotiator R151). -/
theorem Progress.beginAttempt (s : State) :
    Progress (s.setBlk { s.blk with
      attempts := s.blk.attempts + 1#32, pulses := BitVec.ofNat 32 (pulseCount s.blk.sessionBaud.toNat) }) s.beginAttempt :=
  (Progress.setIdx _ 0#32).trans (.goto _ codePulse)

theorem execSSetcfg_writes {s t : State} (h : execSSetcfg s = .next t) :
    ∃ c attempts pulses, Progress { s with
      blk := { s.blk with attempts := attempts, pulses := pulses }, line := { s.line with cfg := c } } t := by
  unfold execSSetcfg at h
  rcases s.line.requestCfgSet_cases s.params (rawCfg s.blk.cfgSaved s.blk.sessionBaud.toNat) with ⟨-, heq⟩ | ⟨-, heq⟩ <;>
    rw [heq] at h <;> cases h
  · exact ⟨rawCfg s.blk.cfgSaved s.blk.sessionBaud.toNat, _, _,
      (Progress.recorded _ (.cfgSet (rawCfg s.blk.cfgSaved s.blk.sessionBaud.toNat) true)).trans (.beginAttempt (s.setLine _))⟩
  · exact ⟨_, _, _, (Progress.recorded s _).trans (.raiseFault ..)⟩

theorem execSPulse_writes {s t : State} (h : execSPulse s = .next t) :
    ∃ ticks, Progress (s.setBlk { s.blk with timer := ticks }) t := by
  rcases txTransfer_progress h with rfl | hprogress
  · exact ⟨_, .goto ..⟩
  · exact ⟨_, hprogress⟩

theorem execSHshake_writes {s t : State} (h : execSHshake s = .next t) :
    ∃ ticks, Progress (s.setBlk { s.blk with timer := ticks }) t := by
  rcases txTransfer_progress h with rfl | hprogress
  · exact ⟨_, .goto ..⟩
  · exact ⟨_, hprogress⟩

theorem execSSettle_writes {s t : State} (h : execSSettle s = .next t) : Progress s t := by
  rw [execSSettle_eq] at h
  split at h <;> cases h
  · exact (Progress.setIdx s _).trans (.goto ..)
  · exact .refl _

theorem execSProbe_writes {s t : State} (h : execSProbe s = .next t) : Progress s t := by
  rw [execSProbe_eq] at h
  split at h <;> cases h
  · exact .goto ..
  · exact .refl _

theorem execSAckO_writes {s t : State} (h : execSAckO s = .next t) : Progress s t :=
  readExpected_progress (fun u => .goto u _) h

theorem execSAckK_writes {s t : State} (h : execSAckK s = .next t) : Progress s t :=
  readExpected_progress (fun u => (Progress.setIdx u _).trans (.goto ..)) h

theorem execSDrain_writes {s t : State} (h : execSDrain s = .next t) :
    ∃ synced, Progress (s.setBlk { s.blk with synced := synced }) t := by
  rcases rxTransfer_progress h with rfl | hprogress | ⟨_, _, _, hput, hprogress⟩
  · exact ⟨true, _, _, _, _, _, _, _, _, _, rfl⟩
  · exact ⟨_, hprogress⟩
  · cases hput
    exact ⟨_, hprogress⟩

theorem execSFailchk_writes {s t : State} (h : execSFailchk s = .next t) :
    ∃ ticks, Progress (s.setBlk { s.blk with timer := ticks }) t := by
  unfold execSFailchk at h
  split at h <;> cases h
  · exact ⟨_, (Progress.setResult s _).trans (.goto ..)⟩
  · exact ⟨_, .goto ..⟩

theorem execSBackoff_writes {s t : State} (h : execSBackoff s = .next t) :
    ∃ attempts pulses, Progress (s.setBlk { s.blk with attempts := attempts, pulses := pulses }) t := by
  rw [execSBackoff_eq] at h
  split at h <;> cases h
  · exact ⟨_, _, .beginAttempt s⟩
  · exact ⟨_, _, .refl _⟩

theorem execSInfoTx_writes {s t : State} (h : execSInfoTx s = .next t) : Progress s t := by
  rcases txTransfer_progress h with rfl | hprogress
  · exact (Progress.setIdx s _).trans (.goto ..)
  · exact hprogress

/-- ACKB takes one byte of the pair (43_command_framer R182). -/
theorem putAck_writes {i : Nat} {b : Byte} {k blk : Block} (h : putAck i b k = .ok blk) :
    ∃ ackb, blk = { k with ackb := ackb } := by
  unfold putAck at h
  split at h <;> cases h <;> exact ⟨_, rfl⟩

/-- LENB or INFO_LEN takes one byte of the length (43_command_framer R183). -/
theorem putLen_writes {i : Nat} {b : Byte} {k blk : Block} (h : putLen i b k = .ok blk) :
    ∃ lenb infoLen, blk = { k with lenb := lenb, infoLen := infoLen } := by
  unfold putLen at h
  split at h <;> cases h <;> exact ⟨_, _, rfl⟩

/-- PAYLOAD takes one byte, below its capacity, and PAY_COUNT counts it (43_command_framer R184). -/
theorem putPay_eq {cap i : Nat} {b : Byte} {k blk : Block} (h : putPay cap i b k = .ok blk) :
    i < cap ∧ blk = { k with payload := k.payload.write i b, payCount := BitVec.ofNat 16 (i + 1) } := by
  unfold putPay at h
  split at h <;> cases h
  exact ⟨‹_›, rfl⟩

theorem execSInfoAck_writes {s t : State} (h : execSInfoAck s = .next t) :
    ∃ ackb, Progress (s.setBlk { s.blk with ackb := ackb }) t := by
  rcases rxTransfer_progress h with rfl | hprogress | ⟨_, _, _, hput, hprogress⟩
  · unfold State.ackDone
    split
    · exact ⟨_, (Progress.setIdx s _).trans (.goto ..)⟩
    · exact ⟨_, .raiseFault ..⟩
  · exact ⟨_, hprogress⟩
  · obtain ⟨ackb, rfl⟩ := putAck_writes hput
    exact ⟨_, hprogress⟩

theorem execSInfoLen_writes {s t : State} (h : execSInfoLen s = .next t) :
    ∃ lenb infoLen, Progress (s.setBlk { s.blk with lenb := lenb, infoLen := infoLen }) t := by
  rcases rxTransfer_progress h with rfl | hprogress | ⟨_, _, _, hput, hprogress⟩
  · unfold State.lenDone
    split
    · exact ⟨_, _, .raiseFault ..⟩
    split
    · exact ⟨_, _, (Progress.setResult s _).trans (.goto ..)⟩
    · exact ⟨_, _, (Progress.setIdx s _).trans (.goto ..)⟩
  · exact ⟨_, _, hprogress⟩
  · obtain ⟨lenb, infoLen, rfl⟩ := putLen_writes hput
    exact ⟨_, _, hprogress⟩

theorem execSInfoPay_writes {s t : State} (h : execSInfoPay s = .next t) :
    ∃ payload payCount, Progress (s.setBlk { s.blk with payload := payload, payCount := payCount }) t := by
  rcases rxTransfer_progress h with rfl | hprogress | ⟨_, _, _, hput, hprogress⟩
  · exact ⟨_, _, (Progress.setResult s _).trans (.goto ..)⟩
  · exact ⟨_, _, hprogress⟩
  · obtain ⟨-, rfl⟩ := putPay_eq hput
    exact ⟨_, _, hprogress⟩

theorem execSRestore_writes {s t : State} (h : execSRestore s = .next t) :
    ∃ c valid failed, Progress { s with
      blk := { s.blk with cfgSavedValid := valid, restoreFail := failed }, line := { s.line with cfg := c } } t := by
  cases h
  rcases s.restoreAndClose_cases with ⟨-, heq⟩ | ⟨-, -, heq⟩ | ⟨-, -, heq⟩ <;> rw [heq]
  · exact ⟨s.blk.cfgSaved, false, s.blk.restoreFail, codeDone, _, _, _, _, false, _, _, _, rfl⟩
  · exact ⟨s.line.cfg, false, true, codeDone, _, _, _, _, false, _, _, _, rfl⟩
  · exact ⟨s.line.cfg, false, true, codeDone, _, .fault, .cfgRestore, _, false, _, _, _, rfl⟩

theorem execCancel_writes (s : State) : ∃ flag, s.hostCancel = s.setBlk { s.blk with cancelFlag := flag } := by
  rcases s.hostCancel_cases with ⟨-, heq⟩ | ⟨-, heq⟩ <;> rw [heq]
  · exact ⟨_, rfl⟩
  · exact ⟨_, rfl⟩

/-- The registers START clears and latches are all but BAUD, PAYLOAD, CFG_SAVED and TIMER (44_host_interface R201). -/
theorem State.hostStart_writes (s : State) : ∃ b : Block, s.hostStart = s.setBlk { b with
    baud := s.blk.baud, payload := s.blk.payload, cfgSaved := s.blk.cfgSaved, timer := s.blk.timer } := by
  rcases s.hostStart_cases with ⟨-, heq⟩ | ⟨-, -, heq⟩ | ⟨-, -, heq⟩ <;> rw [heq]
  · exact ⟨s.blk, rfl⟩
  · exact ⟨{ sessionCleared s.blk with state := codeOpen }, rfl⟩
  · exact ⟨{ sessionCleared s.blk with
      result := .fault, faultCause := .usage, faultInfo := faultInfoWord s.blk.state 0#16, state := codeDone }, rfl⟩

theorem execStart_writes (data : Word) {s t : State} (h : execStart data s = .next t) : ∃ b : Block, t = s.setBlk { b with
    baud := s.blk.baud, payload := s.blk.payload, cfgSaved := s.blk.cfgSaved, timer := s.blk.timer } := by
  cases h
  obtain ⟨b, hb⟩ := s.hostStart_writes
  split <;> rw [hb]
  · obtain ⟨flag, hflag⟩ := execCancel_writes (s.setBlk { b with
      baud := s.blk.baud, payload := s.blk.payload, cfgSaved := s.blk.cfgSaved, timer := s.blk.timer })
    exact ⟨{ b with cancelFlag := flag }, hflag⟩
  · exact ⟨b, rfl⟩

/-- Settles O54: beyond what every transfer moves, each instruction writes what its own lemma above says. -/
theorem registersHaveTheirWriters : Obligations.RegistersHaveTheirWriters := by
  intro i s t h
  cases i with
  | start data =>
    obtain ⟨b, rfl⟩ := execStart_writes data h
    simp [Instr.hostRow?]
  | cancel | cancelIn =>
    obtain ⟨flag, heq⟩ := execCancel_writes s
    cases (congrArg Host.Outcome.next heq).symm.trans h
    simp [Instr.hostRow?]
  | baudWr | ctrlNop | statusWr | attemptsWr | pulsesWr | infoLenWr | faultInfoWr | payCountWr | payWr | rsvdWr
  | ctrlRd | baudRd | statusRd | attemptsRd | pulsesRd | infoLenRd | faultInfoRd | payCountRd | payRd | rsvdRd
  | syncAck | infoResp | sIdle | sDone =>
    cases h
    simp [Instr.hostRow?]
  | misalignedB0 | misalignedB1 | reservedState13 | reservedState14 | reservedState18 => cases h
  | pulse | handshake | infoCmd =>
    obtain ⟨_, _, _, _, _, _, _, _, _, rfl⟩ := sentFrame_progress h
    simp [Instr.hostRow?]
  | sOpen =>
    obtain ⟨_, _, _, _, _, _, _, _, _, rfl⟩ := execSOpen_writes h
    simp [Instr.hostRow?]
  | sGetcfg =>
    obtain ⟨_, _, _, _, _, _, _, _, _, _, _, rfl⟩ := execSGetcfg_writes h
    simp [Instr.hostRow?]
  | sSetcfg =>
    obtain ⟨_, _, _, _, _, _, _, _, _, _, _, _, rfl⟩ := execSSetcfg_writes h
    simp [Instr.hostRow?]
  | sPulse =>
    obtain ⟨_, _, _, _, _, _, _, _, _, _, rfl⟩ := execSPulse_writes h
    simp [Instr.hostRow?]
  | sSettle =>
    obtain ⟨_, _, _, _, _, _, _, _, _, rfl⟩ := execSSettle_writes h
    simp [Instr.hostRow?]
  | sHshake =>
    obtain ⟨_, _, _, _, _, _, _, _, _, _, rfl⟩ := execSHshake_writes h
    simp [Instr.hostRow?]
  | sProbe =>
    obtain ⟨_, _, _, _, _, _, _, _, _, rfl⟩ := execSProbe_writes h
    simp [Instr.hostRow?]
  | sAckO =>
    obtain ⟨_, _, _, _, _, _, _, _, _, rfl⟩ := execSAckO_writes h
    simp [Instr.hostRow?]
  | sAckK =>
    obtain ⟨_, _, _, _, _, _, _, _, _, rfl⟩ := execSAckK_writes h
    simp [Instr.hostRow?]
  | sDrain =>
    obtain ⟨_, _, _, _, _, _, _, _, _, _, rfl⟩ := execSDrain_writes h
    simp [Instr.hostRow?]
  | sFailchk =>
    obtain ⟨_, _, _, _, _, _, _, _, _, _, rfl⟩ := execSFailchk_writes h
    simp [Instr.hostRow?]
  | sBackoff =>
    obtain ⟨_, _, _, _, _, _, _, _, _, _, _, rfl⟩ := execSBackoff_writes h
    simp [Instr.hostRow?]
  | sInfoTx =>
    obtain ⟨_, _, _, _, _, _, _, _, _, rfl⟩ := execSInfoTx_writes h
    simp [Instr.hostRow?]
  | sInfoAck =>
    obtain ⟨_, _, _, _, _, _, _, _, _, _, rfl⟩ := execSInfoAck_writes h
    simp [Instr.hostRow?]
  | sInfoLen =>
    obtain ⟨_, _, _, _, _, _, _, _, _, _, _, rfl⟩ := execSInfoLen_writes h
    simp [Instr.hostRow?]
  | sInfoPay =>
    obtain ⟨_, _, _, _, _, _, _, _, _, _, _, rfl⟩ := execSInfoPay_writes h
    simp [Instr.hostRow?]
  | sRestore =>
    obtain ⟨_, _, _, _, _, _, _, _, _, _, _, _, rfl⟩ := execSRestore_writes h
    simp [Instr.hostRow?]

end Sys2Proof.Machine
end

section
/-! PROOF of StreamsKeepTheirOrder. HOST accesses do not touch LINE's streams, LINE's own steps only append to rxq, and each
transfer step sends at most one byte or takes at most the head of rxq. -/

namespace Sys2Proof.Machine

/-! ## HOST accesses -/

theorem decodeCtrl_next {data : Word} {s t : State} (h : exec (decodeCtrl data) s = .next t) :
    t = s ∨ t = s.hostCancel ∨ t = s.hostStart ∨ t = s.hostStart.hostCancel := by
  unfold decodeCtrl at h
  split at h
  · cases h
    split
    · exact .inr (.inr (.inr rfl))
    · exact .inr (.inr (.inl rfl))
  split at h <;> cases h
  · exact .inr (.inl rfl)
  · exact .inl rfl

/-- All that a HOST access can do where it answers a next state: nothing, drive the read data, write BAUD, CANCEL or START
(44_host_interface R201 to R216). -/
theorem State.runEncoded_host_next {s t : State} {width : Nat} {w : TxnWord}
    (h : s.runEncoded (.host width w) = .next t) :
    t = s ∨ (∃ v, t = s.setHostData v) ∨ (∃ v, t = s.setBlk { s.blk with baud := v }) ∨ t = s.hostCancel ∨
    t = s.hostStart ∨ t = s.hostStart.hostCancel := by
  rw [State.runEncoded_host] at h
  split at h
  · simp only [decodeHost, decodeFields] at h
    split at h
    · cases h
    split at h
    · cases h
    split at h
    · split at h <;> cases h
      · exact .inl rfl
      · exact .inr (.inl ⟨_, rfl⟩)
    split at h
    · unfold decodeWrite at h
      split at h
      · rcases decodeCtrl_next h with rfl | hreq
        · exact .inl rfl
        · exact .inr (.inr (.inr hreq))
      · cases h
        exact .inr (.inr (.inl ⟨_, rfl⟩))
      all_goals cases h; exact .inl rfl
    · unfold decodeRead at h
      split at h <;> cases h <;> exact .inr (.inl ⟨_, rfl⟩)
  · cases h

@[simp] theorem State.hostCancel_line (s : State) : s.hostCancel.line = s.line := by
  rcases s.hostCancel_cases with ⟨_, h⟩ | ⟨_, h⟩ <;> rw [h]

@[simp] theorem State.hostStart_line (s : State) : s.hostStart.line = s.line := by
  rcases s.hostStart_cases with ⟨_, h⟩ | ⟨_, _, h⟩ | ⟨_, _, h⟩ <;> rw [h]

/-- No HOST access touches LINE. -/
theorem State.runEncoded_host_line {s t : State} {width : Nat} {w : TxnWord}
    (h : s.runEncoded (.host width w) = .next t) : t.line = s.line := by
  rcases State.runEncoded_host_next h with rfl | ⟨_, rfl⟩ | ⟨_, rfl⟩ | rfl | rfl | rfl <;> simp

/-! ## The streams under the shared operations -/

/-- From `l` to `m` no byte was sent or taken. -/
def SameStreams (l m : Line) : Prop := m.txlog = l.txlog ∧ m.rxq = l.rxq

/-- From `l` to `m` bytes were sent, or the head of rxq was taken: what a SEQ step does (41_byte_channel R130, R131). -/
def SeqStreams (l m : Line) : Prop := (∃ bs, m.txlog = l.txlog ++ bs) ∧ ∃ n ≤ 1, m.rxq = l.rxq.drop n

theorem SameStreams.refl (l : Line) : SameStreams l l := ⟨rfl, rfl⟩

theorem SameStreams.seq {l m : Line} (h : SameStreams l m) : SeqStreams l m := by
  obtain ⟨htxlog, hrxq⟩ := h
  exact ⟨⟨[], by simpa using htxlog⟩, 0, Nat.zero_le 1, by simpa using hrxq⟩

theorem SeqStreams.sent {l m : Line} {bs : List Byte} (htxlog : m.txlog = l.txlog ++ bs) (hrxq : m.rxq = l.rxq) :
    SeqStreams l m := ⟨⟨bs, htxlog⟩, 0, Nat.zero_le 1, by simpa using hrxq⟩

theorem SeqStreams.took {l m : Line} {x : RxEntry} {rest : List RxEntry} (hl : l.rxq = x :: rest)
    (h : SameStreams { l with rxq := rest } m) : SeqStreams l m := by
  obtain ⟨htxlog, hrxq⟩ := h
  exact ⟨⟨[], by simpa using htxlog⟩, 1, Nat.le_refl 1, by simpa [hl] using hrxq⟩

theorem State.raiseFault_sameStreams (s : State) (c : Cause) (d : BitVec 16) :
    SameStreams s.line (s.raiseFault c d).line := by
  rw [State.raiseFault_line]
  split <;> exact ⟨rfl, rfl⟩

theorem txTransfer_streams {n : Nat} {frame : Nat → Option Byte} {done : State → State} {s t : State}
    (h : txTransfer n frame done s = .next t) (hdone : SameStreams s.line (done s).line) :
    (∃ bs, t.line.txlog = s.line.txlog ++ bs) ∧ t.line.rxq = s.line.rxq := by
  have hsame : ∀ {m : Line}, SameStreams s.line m → (∃ bs, m.txlog = s.line.txlog ++ bs) ∧ m.rxq = s.line.rxq :=
    fun ⟨htxlog, hrxq⟩ => ⟨⟨[], by simpa using htxlog⟩, hrxq⟩
  rcases txTransfer_next h with ⟨-, rfl⟩ | ⟨-, b, -, -, -, rfl⟩ | ⟨-, -, -, rfl⟩ | ⟨-, -, rfl⟩ | ⟨-, -, rfl⟩
  · exact hsame hdone
  · exact ⟨⟨[b], rfl⟩, rfl⟩
  · exact hsame (.refl _)
  · exact hsame (s.raiseFault_sameStreams ..)
  · exact hsame (s.raiseFault_sameStreams ..)

theorem txTransfer_seqStreams {n : Nat} {frame : Nat → Option Byte} {done : State → State} {s t : State}
    (h : txTransfer n frame done s = .next t) (hdone : SameStreams s.line (done s).line) : SeqStreams s.line t.line := by
  obtain ⟨⟨_, htxlog⟩, hrxq⟩ := txTransfer_streams h hdone
  exact .sent htxlog hrxq

theorem rxTransfer_seqStreams {n : Nat} {put : Nat → Byte → Block → Except Fault Block} {done : State → State}
    {s t : State} (h : rxTransfer n put done s = .next t) (hdone : SameStreams s.line (done s).line) :
    SeqStreams s.line t.line := by
  rcases rxTransfer_next h with ⟨-, rfl⟩ | ⟨-, b, rest, blk, hq, -, rfl⟩ | ⟨-, -, rfl⟩ | ⟨-, rest, hq, rfl⟩ |
    ⟨-, rest, hq, rfl⟩
  · exact hdone.seq
  · exact .took hq (.refl _)
  · exact (SameStreams.refl _).seq
  · exact .took hq (State.raiseFault_sameStreams ..)
  · exact .took hq (State.raiseFault_sameStreams ..)

theorem readExpected_seqStreams {want : Byte} {m : BitVec 16} {hit : State → State} {s t : State}
    (h : readExpected want m hit s = .next t) (hhit : ∀ u, SameStreams u.line (hit u).line) :
    SeqStreams s.line t.line := by
  rcases readExpected_cases want m hit s with ⟨-, heq⟩ | ⟨rest, hq, heq⟩ | ⟨_, rest, -, hq, heq⟩ | ⟨rest, hq, heq⟩ |
    ⟨rest, hq, heq⟩ <;> cases heq.symm.trans h
  · exact (SameStreams.refl _).seq
  · exact .took hq (hhit _)
  · exact .took hq (.refl _)
  · exact .took hq (State.raiseFault_sameStreams ..)
  · exact .took hq (State.raiseFault_sameStreams ..)

/-! ## The streams under each state's SEQ step -/

theorem execSOpen_streams {s t : State} (h : execSOpen s = .next t) : SameStreams s.line t.line := by
  simp only [execSOpen, Line.requestOpen] at h
  split at h <;> rename_i hreq <;> cases h <;> obtain ⟨-, rfl⟩ := Prod.mk.inj hreq
  · exact ⟨rfl, rfl⟩
  · exact State.raiseFault_sameStreams (s.setLine _) ..

theorem execSGetcfg_streams {s t : State} (h : execSGetcfg s = .next t) : SameStreams s.line t.line := by
  unfold execSGetcfg at h
  rcases s.line.requestCfgGet_cases with ⟨-, heq⟩ | ⟨-, heq⟩ <;> rw [heq] at h <;> cases h
  · exact ⟨rfl, rfl⟩
  · exact State.raiseFault_sameStreams (s.setLine _) ..

theorem execSSetcfg_streams {s t : State} (h : execSSetcfg s = .next t) : SameStreams s.line t.line := by
  unfold execSSetcfg at h
  rcases s.line.requestCfgSet_cases s.params (rawCfg s.blk.cfgSaved s.blk.sessionBaud.toNat) with ⟨-, heq⟩ | ⟨-, heq⟩ <;>
    rw [heq] at h <;> cases h
  · exact ⟨rfl, rfl⟩
  · exact State.raiseFault_sameStreams (s.setLine _) ..

theorem State.restoreAndClose_sameStreams (s : State) : SameStreams s.line s.restoreAndClose.line := by
  rcases s.restoreAndClose_cases with ⟨-, heq⟩ | ⟨-, -, heq⟩ | ⟨-, -, heq⟩ <;> rw [heq] <;> exact ⟨rfl, rfl⟩

theorem State.ackDone_sameStreams (s : State) : SameStreams s.line s.ackDone.line := by
  unfold State.ackDone
  split
  · exact .refl _
  · exact s.raiseFault_sameStreams ..

theorem State.lenDone_sameStreams (s : State) : SameStreams s.line s.lenDone.line := by
  unfold State.lenDone
  split
  · exact s.raiseFault_sameStreams ..
  split <;> exact .refl _

theorem SameStreams.of_ite {p : Prop} [Decidable p] {s t u v : State}
    (h : (if p then Host.Outcome.next t else .next u : Result) = .next v) (ht : SameStreams s.line t.line)
    (hu : SameStreams s.line u.line) :
    SameStreams s.line v.line := by
  split at h <;> cases h
  · exact ht
  · exact hu

/-- A SEQ step sends, or takes at most the head of rxq, whatever code STATE holds (42_sync_negotiator R163). -/
theorem exec_decodeSeq_streams (c : StateCode) {s t : State} (h : exec (decodeSeq c) s = .next t) :
    SeqStreams s.line t.line := by
  unfold decodeSeq at h
  split at h
  case h_1 => cases h; exact (SameStreams.refl _).seq
  case h_2 => exact (execSOpen_streams h).seq
  case h_3 => exact (execSGetcfg_streams h).seq
  case h_4 => exact (execSSetcfg_streams h).seq
  case h_5 => exact txTransfer_seqStreams (show execSPulse s = .next t from h) (.refl _)
  case h_6 => exact (SameStreams.of_ite (show execSSettle s = .next t from h) (.refl _) (.refl _)).seq
  case h_7 => exact txTransfer_seqStreams (show execSHshake s = .next t from h) (.refl _)
  case h_8 => exact (SameStreams.of_ite (show execSProbe s = .next t from h) (.refl _) (.refl _)).seq
  case h_9 => exact readExpected_seqStreams (show execSAckO s = .next t from h) (fun _ => .refl _)
  case h_10 => exact readExpected_seqStreams (show execSAckK s = .next t from h) (fun _ => .refl _)
  case h_11 => exact rxTransfer_seqStreams (show execSDrain s = .next t from h) (.refl _)
  case h_12 => exact (SameStreams.of_ite (show execSFailchk s = .next t from h) (.refl _) (.refl _)).seq
  case h_13 => exact (SameStreams.of_ite (show execSBackoff s = .next t from h) (.refl _) (.refl _)).seq
  case h_14 => exact txTransfer_seqStreams (show execSInfoTx s = .next t from h) (.refl _)
  case h_15 => exact rxTransfer_seqStreams (show execSInfoAck s = .next t from h) s.ackDone_sameStreams
  case h_16 => exact rxTransfer_seqStreams (show execSInfoLen s = .next t from h) s.lenDone_sameStreams
  case h_17 => exact rxTransfer_seqStreams (show execSInfoPay s = .next t from h) (.refl _)
  case h_18 => cases h; exact s.restoreAndClose_sameStreams.seq
  case h_19 => cases h; exact (SameStreams.refl _).seq
  case h_20 => cases h
  case h_21 => split at h <;> cases h

/-! ## The streams under every event -/

/-- A frame the block sends only lengthens txlog. -/
theorem sentFrame_streams {p : Prop} [Decidable p] {n : Nat} {frame : Nat → Option Byte} {fuel : Nat} {s t : State}
    (h : (if p then sendFrame frame n fuel s else .next s) = .next t) :
    (∃ bs, t.line.txlog = s.line.txlog ++ bs) ∧ t.line.rxq = s.line.rxq := by
  have hstart : (∃ bs, s.line.txlog = s.line.txlog ++ bs) ∧ s.line.rxq = s.line.rxq := ⟨⟨[], by simp⟩, rfl⟩
  split at h
  · refine sendFrame_keeps (P := fun u => (∃ bs, u.line.txlog = s.line.txlog ++ bs) ∧ u.line.rxq = s.line.rxq)
      (fun u v hu _ hv => ?_) fuel s t hstart h
    obtain ⟨⟨bs, htxlog⟩, hrxq⟩ := hu
    obtain ⟨⟨bs', htxlog'⟩, hrxq'⟩ := txTransfer_streams hv (.refl _)
    exact ⟨⟨bs ++ bs', by rw [htxlog', htxlog, List.append_assoc]⟩, hrxq'.trans hrxq⟩
  · cases h
    exact hstart

theorem State.runEncoded_wireOut_streams {s t : State} {bs : List Byte} (h : s.runEncoded (.wireOut bs) = .next t) :
    (∃ bs, t.line.txlog = s.line.txlog ++ bs) ∧ t.line.rxq = s.line.rxq := by
  rcases s.runEncoded_wireOut_cases bs with heq | heq | heq | heq <;> rw [heq] at h
  · exact sentFrame_streams h
  · exact sentFrame_streams h
  · exact sentFrame_streams h
  · cases h

/-- What an event may do to LINE's streams: txlog grows, by a SEQ step or a sent frame only; rxq loses its head, to a SEQ
step only, or gains entries at its end (10_state R42, R43). -/
def KeepsOrder (e : Event) (l m : Line) : Prop :=
  (∃ bs : List Byte, m.txlog = l.txlog ++ bs ∧ (bs ≠ [] → e = .seq ∨ e = .clk ∨ ∃ f, e = .wireOut f)) ∧
  (∃ (n : Nat) (es : List RxEntry), m.rxq = l.rxq.drop n ++ es ∧ n ≤ 1 ∧ (n ≠ 0 → e = .seq ∨ e = .clk) ∧
    (es ≠ [] → n = 0))

theorem KeepsOrder.of_arrival {e : Event} {l m : Line} {es : List RxEntry} (htxlog : m.txlog = l.txlog)
    (hrxq : m.rxq = l.rxq ++ es) : KeepsOrder e l m :=
  ⟨⟨[], by simpa using htxlog, nofun⟩, 0, es, hrxq, Nat.zero_le 1, nofun, fun _ => rfl⟩

theorem KeepsOrder.of_same {e : Event} {l m : Line} (h : m = l) : KeepsOrder e l m :=
  .of_arrival (es := []) (by rw [h]) (by simp [h])

theorem KeepsOrder.of_seq {e : Event} {l m : Line} (he : e = .seq ∨ e = .clk) (h : SeqStreams l m) : KeepsOrder e l m := by
  obtain ⟨⟨bs, htxlog⟩, n, hn, hrxq⟩ := h
  exact ⟨⟨bs, htxlog, fun _ => he.imp_right .inl⟩, n, [], by simpa using hrxq, hn, fun _ => he, nofun⟩

theorem KeepsOrder.of_sent {f bs : List Byte} {l m : Line} (htxlog : m.txlog = l.txlog ++ bs) (hrxq : m.rxq = l.rxq) :
    KeepsOrder (.wireOut f) l m :=
  ⟨⟨bs, htxlog, fun _ => .inr (.inr ⟨f, rfl⟩)⟩, 0, [], by simpa using hrxq, Nat.zero_le 1, nofun, nofun⟩

/-- A blocked event changes nothing where it answers a next state (70_reset R270). -/
theorem State.duringReset_next {s t : State} {e : Event} (h : s.duringReset e = .next t) : t = s := by
  cases e <;> cases h <;> rfl

/-- Settles O55, event by event. -/
theorem streamsKeepTheirOrder : Obligations.StreamsKeepTheirOrder := by
  intro s t e h
  show KeepsOrder e s.line t.line
  unfold State.perform at h
  split at h
  · exact .of_same (by rw [State.duringReset_next h])
  cases e with
  | seq => exact .of_seq (.inl rfl) (exec_decodeSeq_streams _ h)
  | clk => exact .of_seq (.inr rfl) (exec_decodeSeq_streams _ (s := s.timerTick) h)
  | host width w => exact .of_same (State.runEncoded_host_line h)
  | pin level =>
    cases (s.runEncoded_pin level).symm.trans h
    split
    · exact .of_same s.hostCancel_line
    · exact .of_same rfl
  | wireOut bs =>
    obtain ⟨⟨_, htxlog⟩, hrxq⟩ := State.runEncoded_wireOut_streams h
    exact .of_sent htxlog hrxq
  | syncIn bs =>
    cases (s.runEncoded_syncIn bs).symm.trans h
    exact .of_arrival rfl rfl
  | infoIn bs =>
    cases (s.runEncoded_infoIn bs).symm.trans h
    exact .of_arrival rfl rfl
  | line l =>
    cases h
    obtain ⟨es, hrxq⟩ := s.line.own_rxq s.params s.blk.lineHeld l
    exact .of_arrival (Line.own_txlog ..) hrxq
  | tick | expire =>
    cases h
    exact .of_same rfl
  | rst level =>
    cases h
    cases level <;> exact .of_same rfl

end Sys2Proof.Machine
end

section
/-! PROOF of StepKeepsInv. The invariant is read phase by phase: what it says before the outcome stands, during the attempts,
in the framer's states and after the outcome. Each move of the block is shown once to keep it; the transfer templates, then
each state's SEQ step, then each event, are made of those moves. -/

namespace Sys2Proof.Machine

/-! ## The invariant's parts -/

/-- The clauses on the block alone. -/
def blockInv (p : Params) (b : Block) : Prop := sessionInv b ∧ transferInv p b ∧ payloadInv p b ∧ timerInv p b

/-- The clauses that hold outside reset as well as in it. -/
def runInv (s : State) : Prop := blockInv s.params s.blk ∧ lineInv s.blk s.line

theorem machineInv_iff (s : State) : machineInv s ↔ runInv s ∧ resetInv s := by
  unfold machineInv runInv blockInv
  tauto

/-! ## What the invariant says in each phase -/

/-- The session registers before the outcome stands (10_state R27 to R38): the line is held from S_GETCFG on, its
configuration saved from S_SETCFG on, and the peer synchronized from S_INFO_TX on. -/
def Unended (b : Block) (held saved synced : Bool) : Prop :=
  b.lineHeld = held ∧ b.cfgSavedValid = saved ∧ b.synced = synced ∧ b.result = .none ∧ b.faultCause = .none ∧
    b.restoreFail = false

/-- The session registers once the outcome stands, with the restore still owed or not (40_line_transport R114). -/
def Ended (b : Block) (owed : Bool) : Prop :=
  b.lineHeld = owed ∧ b.cfgSavedValid = owed ∧ b.result ≠ .none ∧ (b.faultCause = .none ↔ b.result ≠ .fault) ∧
    (b.result = .success → b.synced = true) ∧ (b.result = .cancelled → b.synced = false) ∧
    (b.restoreFail = true → owed = false ∧ b.result = .fault)

section
variable {p : Params} {b : Block} {c : StateCode} (hb : b.state = c)
include hb

theorem sessionInv_unended (hc : c.toNat ≤ 16) :
    sessionInv b ↔ Unended b (decide (2 ≤ c.toNat)) (decide (3 ≤ c.toNat)) (decide (13 ≤ c.toNat)) := by
  subst hb
  have hdone : b.state ≠ codeDone := by
    intro h
    rw [h] at hc
    exact absurd hc (by decide)
  unfold sessionInv Unended
  grind

theorem sessionInv_ended (hc : 17 ≤ c.toNat) (hc' : c.toNat ≤ 18) : sessionInv b ↔ Ended b (decide (c.toNat = 17)) := by
  subst hb
  have hdone : b.state = codeDone ↔ b.state.toNat = 18 := by
    rw [← BitVec.toNat_inj]
    rfl
  unfold sessionInv Ended
  grind

end

/-- How many bytes the transfer of a state before S_INFO_LEN has; a state without a transfer leaves IDX free (10_state
R25). -/
def transferLen (c : StateCode) (pulses : Word) : Nat :=
  match c.toNat with
  | 0x04 => pulses.toNat
  | 0x06 => 12
  | 0x0A => 3
  | 0x0D => 4
  | 0x0E => 2
  | _ => 2 ^ 32

theorem code_eq_iff {c d : StateCode} : c = d ↔ c.toNat = d.toNat := BitVec.toNat_inj.symm

/-- From S_PULSE to S_INFO_ACK nothing of the info response has arrived (43_command_framer R183, R184). -/
theorem transferInv_attempt {p : Params} {b : Block} {c : StateCode} (hb : b.state = c) (hc : 4 ≤ c.toNat)
    (hc' : c.toNat ≤ 14) :
    transferInv p b ↔ b.sessionBaud ≠ 0#32 ∧ b.pulses.toNat = pulseCount b.sessionBaud.toNat ∧
      b.idx.toNat ≤ transferLen c b.pulses ∧ b.payCount = 0#16 ∧ b.infoLen = 0#16 := by
  have hidx : b.idx.toNat ≤ 4294967296 := b.idx.isLt.le
  subst hb
  simp only [transferInv, transferLen, code_eq_iff (c := b.state), codePulse, codeHshake, codeDrain, codeInfoTx,
    codeInfoAck, codeInfoLen, codeInfoPay, BitVec.toNat_ofNat]
  generalize b.state.toNat = n at hc hc'
  interval_cases n <;> simp +contextual [hidx]

/-- Before the first attempt (40_line_transport R110 to R112). -/
theorem transferInv_opening {p : Params} {b : Block} {c : StateCode} (hb : b.state = c) (hc : 1 ≤ c.toNat)
    (hc' : c.toNat ≤ 3) : transferInv p b ↔ b.sessionBaud ≠ 0#32 ∧ b.payCount = 0#16 ∧ b.infoLen = 0#16 := by
  subst hb
  simp only [transferInv, code_eq_iff (c := b.state), codePulse, codeHshake, codeDrain, codeInfoTx, codeInfoAck,
    codeInfoLen, codeInfoPay, BitVec.toNat_ofNat]
  generalize b.state.toNat = n at hc hc'
  interval_cases n <;> simp +contextual

theorem transferInv_infoLen {p : Params} {b : Block} (hb : b.state = codeInfoLen) :
    transferInv p b ↔ b.sessionBaud ≠ 0#32 ∧ b.pulses.toNat = pulseCount b.sessionBaud.toNat ∧ b.idx.toNat ≤ 2 ∧
      b.payCount = 0#16 ∧ (b.idx.toNat ≤ 1 → b.infoLen = 0#16) ∧ (b.result = .success → b.payCount = b.infoLen) := by
  simp [transferInv, hb, codePulse, codeHshake, codeDrain, codeInfoTx, codeInfoAck, codeInfoLen, codeInfoPay]

theorem transferInv_infoPay {p : Params} {b : Block} (hb : b.state = codeInfoPay) :
    transferInv p b ↔ b.sessionBaud ≠ 0#32 ∧ b.pulses.toNat = pulseCount b.sessionBaud.toNat ∧
      (b.infoLen ≠ 0#16 ∧ b.infoLen.toNat ≤ p.payloadCap ∧ b.idx.toNat ≤ b.infoLen.toNat ∧
        b.payCount.toNat = b.idx.toNat) ∧ (b.result = .success → b.payCount = b.infoLen) := by
  simp [transferInv, hb, codePulse, codeHshake, codeDrain, codeInfoTx, codeInfoAck, codeInfoLen, codeInfoPay]

theorem transferInv_ended {p : Params} {b : Block} (hb : b.state = codeRestore ∨ b.state = codeDone) :
    transferInv p b ↔ (b.result = .success → b.payCount = b.infoLen) := by
  rcases hb with hb | hb <;>
    simp [transferInv, hb, codePulse, codeHshake, codeDrain, codeInfoTx, codeInfoAck, codeInfoLen, codeInfoPay, codeRestore,
      codeDone]

/-! ## What moves the block may make -/

/-- Two codes of the attempts (S_PULSE to S_BACKOFF), or two of the framer's first two states. -/
abbrev SamePhase (c c' : StateCode) : Prop :=
  4 ≤ c.toNat ∧ c.toNat ≤ 14 ∧ 4 ≤ c'.toNat ∧ c'.toNat ≤ 14 ∧ (13 ≤ c.toNat ↔ 13 ≤ c'.toNat)

/-- Within the attempts, or within the framer's first two states, the block moves by STATE, IDX and TIMER. -/
theorem blockInv_move {p : Params} {b : Block} {c : StateCode} (h : blockInv p b) (hb : b.state = c) (c' : StateCode)
    (i : Word) (ticks : Nat) (hphase : SamePhase c c') (hidx : i.toNat ≤ transferLen c' b.pulses)
    (htimer : paramsAdmissible p = true → ticks < 2 ^ p.timerW) :
    blockInv p { b with state := c', idx := i, timer := ticks } := by
  obtain ⟨hsession, htransfer, hpayload, -⟩ := h
  obtain ⟨hc4, hc14, hc4', hc14', hframing⟩ := hphase
  obtain ⟨hbaud, hpulses, -, hcount, hlen⟩ := (transferInv_attempt hb hc4 hc14).1 htransfer
  have hregs := (sessionInv_unended hb (hc14.trans (by decide))).1 hsession
  refine ⟨(sessionInv_unended rfl (hc14'.trans (by decide))).2 ?_,
    (transferInv_attempt rfl hc4' hc14').2 ⟨hbaud, hpulses, hidx, hcount, hlen⟩, hpayload, htimer⟩
  have hheld : decide (2 ≤ c.toNat) = decide (2 ≤ c'.toNat) := by simp; omega
  have hsaved : decide (3 ≤ c.toNat) = decide (3 ≤ c'.toNat) := by simp; omega
  rw [hheld, hsaved, decide_eq_decide.2 hframing] at hregs
  exact hregs

/-- IDX counts a byte of its transfer (41_byte_channel R133, R134). -/
theorem idx_succ_le {i : Word} {n : Nat} (hle : i.toNat ≤ n) (hne : i.toNat ≠ n) : (i + 1#32).toNat ≤ n := by
  rw [BitVec.toNat_add]
  exact (Nat.mod_le _ _).trans (Nat.lt_of_le_of_ne hle hne)

theorem pulseCount_fits (baud : Word) : (BitVec.ofNat 32 (pulseCount baud.toNat)).toNat = pulseCount baud.toNat := by
  have := baud.isLt
  rw [BitVec.toNat_ofNat, Nat.mod_eq_of_lt]
  unfold pulseCount
  omega

/-- BeginAttempt, from S_SETCFG or from S_BACKOFF (42_sync_negotiator R151). -/
theorem blockInv_beginAttempt {s : State} (h : blockInv s.params s.blk)
    (hstate : s.blk.state = codeSetcfg ∨ s.blk.state = codeBackoff) : blockInv s.params s.beginAttempt.blk := by
  obtain ⟨hsession, htransfer, hpayload, htimer⟩ := h
  have hregs : Unended s.blk true true false := by
    rcases hstate with hb | hb <;> exact (sessionInv_unended hb (by decide)).1 hsession
  have hready : s.blk.sessionBaud ≠ 0#32 ∧ s.blk.payCount = 0#16 ∧ s.blk.infoLen = 0#16 := by
    rcases hstate with hb | hb
    · exact (transferInv_opening hb (by decide) (by decide)).1 htransfer
    · obtain ⟨hbaud, -, -, hcount, hlen⟩ := (transferInv_attempt hb (by decide) (by decide)).1 htransfer
      exact ⟨hbaud, hcount, hlen⟩
  obtain ⟨hbaud, hcount, hlen⟩ := hready
  exact ⟨(sessionInv_unended (c := codePulse) rfl (by decide)).2 hregs,
    (transferInv_attempt (c := codePulse) rfl (by decide) (by decide)).2
      ⟨hbaud, pulseCount_fits _, Nat.zero_le _, hcount, hlen⟩, hpayload, htimer⟩

/-- Fault entry from a session in progress (60_exceptions R241). -/
theorem blockInv_raiseFault {s : State} (h : blockInv s.params s.blk) (hcode : s.blk.state.toNat ≤ 16) {cause : Cause}
    (hcause : cause ≠ .none) (data : BitVec 16) : blockInv s.params (s.raiseFault cause data).blk := by
  obtain ⟨hsession, -, hpayload, htimer⟩ := h
  obtain ⟨hheld, hsaved, -, -, -, hrestore⟩ := (sessionInv_unended rfl hcode).1 hsession
  rw [State.raiseFault_blk]
  cases hvalid : s.blk.cfgSavedValid
  · refine ⟨(sessionInv_ended (c := codeDone) rfl (by decide) (by decide)).2 ?_,
      (transferInv_ended (.inr rfl)).2 nofun, hpayload, htimer⟩
    exact ⟨rfl, hvalid, nofun, by simpa using hcause, nofun, nofun, by simp [hrestore]⟩
  · refine ⟨(sessionInv_ended (c := codeRestore) rfl (by decide) (by decide)).2 ?_,
      (transferInv_ended (.inl rfl)).2 nofun, hpayload, htimer⟩
    have hline : s.blk.lineHeld = true := by
      rw [hheld]
      rw [hsaved] at hvalid
      simp at hvalid ⊢
      omega
    exact ⟨hline, hvalid, nofun, by simpa using hcause, nofun, nofun, by simp [hrestore]⟩

/-- A session that has saved LINE's configuration ends without a fault in S_RESTORE (42_sync_negotiator R159,
43_command_framer R183, R184). -/
theorem blockInv_end {p : Params} {b : Block} (h : blockInv p b) (hcode : 3 ≤ b.state.toNat ∧ b.state.toNat ≤ 16)
    {r : SessionResult} (hr : r = .success ∧ 13 ≤ b.state.toNat ∧ b.payCount = b.infoLen ∨
      r = .cancelled ∧ b.state.toNat ≤ 12) : blockInv p { b with result := r, state := codeRestore } := by
  obtain ⟨hsession, -, hpayload, htimer⟩ := h
  obtain ⟨hheld, hsaved, hsynced, -, hcause, hrestore⟩ := (sessionInv_unended rfl hcode.2).1 hsession
  refine ⟨(sessionInv_ended (c := codeRestore) rfl (by decide) (by decide)).2 ⟨?_, ?_, ?_, ?_, ?_, ?_, ?_⟩,
    (transferInv_ended (.inl rfl)).2 ?_, hpayload, htimer⟩
  · exact hheld.trans (decide_eq_true (by omega))
  · exact hsaved.trans (decide_eq_true hcode.1)
  · rcases hr with ⟨rfl, -⟩ | ⟨rfl, -⟩ <;> nofun
  · rcases hr with ⟨rfl, -⟩ | ⟨rfl, -⟩ <;> simpa using hcause
  · rcases hr with ⟨rfl, hframing, -⟩ | ⟨rfl, -⟩
    · simpa [hsynced] using hframing
    · nofun
  · rcases hr with ⟨rfl, -⟩ | ⟨rfl, hnegotiating⟩
    · nofun
    · simp [hsynced]; omega
  · simp [hrestore]
  · rcases hr with ⟨rfl, -, hcount⟩ | ⟨rfl, -⟩
    · exact fun _ => hcount
    · nofun

/-- S_RESTORE ends the session, with the restore made or failed (40_line_transport R114). -/
theorem blockInv_restoreAndClose {s : State} (h : blockInv s.params s.blk) (hstate : s.blk.state = codeRestore) :
    blockInv s.params s.restoreAndClose.blk := by
  obtain ⟨hsession, htransfer, hpayload, htimer⟩ := h
  obtain ⟨-, -, hresult, hcause, hsuccess, hcancelled, hrestore⟩ := (sessionInv_ended hstate (by decide) (by decide)).1 hsession
  have hcount := (transferInv_ended (.inl hstate)).1 htransfer
  rcases s.restoreAndClose_cases with ⟨-, heq⟩ | ⟨-, hfault, heq⟩ | ⟨-, hnofault, heq⟩ <;> rw [heq]
  · exact ⟨(sessionInv_ended (c := codeDone) rfl (by decide) (by decide)).2
      ⟨rfl, rfl, hresult, hcause, hsuccess, hcancelled, fun hfail => ⟨rfl, (hrestore hfail).2⟩⟩,
      (transferInv_ended (.inr rfl)).2 hcount, hpayload, htimer⟩
  · exact ⟨(sessionInv_ended (c := codeDone) rfl (by decide) (by decide)).2
      ⟨rfl, rfl, hresult, hcause, hsuccess, hcancelled, fun _ => ⟨rfl, hfault⟩⟩,
      (transferInv_ended (.inr rfl)).2 hcount, hpayload, htimer⟩
  · exact ⟨(sessionInv_ended (c := codeDone) rfl (by decide) (by decide)).2
      ⟨rfl, rfl, nofun, by simp, nofun, nofun, fun _ => ⟨rfl, rfl⟩⟩,
      (transferInv_ended (.inr rfl)).2 nofun, hpayload, htimer⟩

/-- START (44_host_interface R201). -/
theorem blockInv_hostStart {s : State} (h : blockInv s.params s.blk) : blockInv s.params s.hostStart.blk := by
  have hkeep := h
  obtain ⟨-, -, hpayload, htimer⟩ := h
  rcases s.hostStart_cases with ⟨-, heq⟩ | ⟨-, hbaud, heq⟩ | ⟨-, -, heq⟩ <;> rw [heq]
  · exact hkeep
  · exact ⟨(sessionInv_unended (c := codeOpen) rfl (by decide)).2 ⟨rfl, rfl, rfl, rfl, rfl, rfl⟩,
      (transferInv_opening (c := codeOpen) rfl (by decide) (by decide)).2 ⟨hbaud, rfl, rfl⟩, hpayload, htimer⟩
  · exact ⟨(sessionInv_ended (c := codeDone) rfl (by decide) (by decide)).2
      ⟨rfl, rfl, nofun, by simp, nofun, nofun, nofun⟩, (transferInv_ended (.inr rfl)).2 nofun, hpayload, htimer⟩

theorem blockInv_hostCancel {s : State} (h : blockInv s.params s.blk) : blockInv s.params s.hostCancel.blk := by
  obtain ⟨flag, heq⟩ := execCancel_writes s
  rw [heq]
  exact h

/-- The block's registers after reset, for any parameters (70_reset R270). -/
theorem blockInv_reset (p : Params) : blockInv p Block.reset := by
  refine ⟨(sessionInv_unended (c := codeIdle) rfl (by decide)).2 ⟨rfl, rfl, rfl, rfl, rfl, rfl⟩, ?_, ⟨rfl, rfl⟩,
    fun _ => Nat.two_pow_pos _⟩
  simp [transferInv, Block.reset, codeIdle, codePulse, codeHshake, codeDrain, codeInfoTx, codeInfoAck, codeInfoLen,
    codeInfoPay]

/-! ## LINE -/

/-- Outside S_ACK_O the block asks nothing of rxq. -/
theorem lineInv_of_ne {b : Block} {l : Line} (hne : b.state ≠ codeAckO) (hwire : l.onWire ≤ l.txlog.length) :
    lineInv b l := ⟨fun h => absurd h hne, hwire⟩

theorem raiseFault_state_ne (s : State) (cause : Cause) (data : BitVec 16) :
    (s.raiseFault cause data).blk.state ≠ codeAckO := by
  rw [State.raiseFault_blk]
  show (if _ then _ else _) ≠ _
  split <;> decide

/-- Fault entry, from any position of LINE's streams. -/
theorem runInv_raiseFault {s : State} {l : Line} {cause : Cause} {data : BitVec 16} (h : blockInv s.params s.blk)
    (hcode : s.blk.state.toNat ≤ 16) (hwire : l.onWire ≤ l.txlog.length) (hcause : cause ≠ .none) :
    runInv ((s.setLine l).raiseFault cause data) := by
  refine ⟨?_, lineInv_of_ne (raiseFault_state_ne _ cause data) ?_⟩
  · rw [State.raiseFault_params]
    exact blockInv_raiseFault (s := s.setLine l) h hcode hcause data
  · rw [State.raiseFault_line]
    split <;> exact hwire

/-! ## The templates keep the invariant -/

/-- A state before S_INFO_LEN counts a byte of its transfer. -/
theorem blockInv_count {p : Params} {b : Block} {c : StateCode} (h : blockInv p b) (hb : b.state = c)
    (hc : 4 ≤ c.toNat ∧ c.toNat ≤ 14) (hne : b.idx.toNat ≠ transferLen c b.pulses) :
    blockInv p { b with idx := b.idx + 1#32 } := by
  have hkeep := h
  obtain ⟨-, htransfer, -, htimer⟩ := h
  obtain ⟨-, -, hidx, -, -⟩ := (transferInv_attempt hb hc.1 hc.2).1 htransfer
  subst hb
  exact blockInv_move hkeep rfl b.state _ b.timer ⟨hc.1, hc.2, hc.1, hc.2, Iff.rfl⟩ (idx_succ_le hidx hne) htimer

section
variable {s t : State} (hinv : runInv s) (hcode : s.blk.state.toNat ≤ 16)
include hinv hcode

theorem txTransfer_keeps {n : Nat} {frame : Nat → Option Byte} {done : State → State}
    (h : txTransfer n frame done s = .next t) (hne : s.blk.state ≠ codeAckO)
    (hdone : s.blk.idx.toNat = n → runInv (done s))
    (hcount : s.blk.idx.toNat ≠ n → blockInv s.params { s.blk with idx := s.blk.idx + 1#32 }) : runInv t := by
  have hkeep := hinv
  obtain ⟨hblk, -, hwire⟩ := hinv
  rcases txTransfer_next h with ⟨hn, rfl⟩ | ⟨hn, b, -, -, -, rfl⟩ | ⟨-, -, -, rfl⟩ | ⟨-, -, rfl⟩ | ⟨-, -, rfl⟩
  · exact hdone hn
  · exact ⟨hcount hn, lineInv_of_ne hne (by simpa using Nat.le_succ_of_le hwire)⟩
  · exact hkeep
  · exact runInv_raiseFault (l := s.line) hblk hcode hwire (by decide)
  · exact runInv_raiseFault (l := s.line) hblk hcode hwire (by decide)

theorem rxTransfer_keeps {n : Nat} {put : Nat → Byte → Block → Except Fault Block} {done : State → State}
    (h : rxTransfer n put done s = .next t) (hne : s.blk.state ≠ codeAckO)
    (hdone : s.blk.idx.toNat = n → runInv (done s))
    (hput : s.blk.idx.toNat ≠ n → ∀ b blk, put s.blk.idx.toNat b s.blk = .ok blk →
      blk.state = s.blk.state ∧ blockInv s.params { blk with idx := s.blk.idx + 1#32 }) : runInv t := by
  have hkeep := hinv
  obtain ⟨hblk, -, hwire⟩ := hinv
  rcases rxTransfer_next h with ⟨hn, rfl⟩ | ⟨hn, b, rest, blk, -, hok, rfl⟩ | ⟨-, -, rfl⟩ | ⟨-, rest, -, rfl⟩ |
    ⟨-, rest, -, rfl⟩
  · exact hdone hn
  · obtain ⟨hstate, hnext⟩ := hput hn b blk hok
    exact ⟨hnext, lineInv_of_ne (hstate ▸ hne) hwire⟩
  · exact hkeep
  · exact runInv_raiseFault hblk hcode hwire (by decide)
  · exact runInv_raiseFault hblk hcode hwire (by decide)

theorem readExpected_keeps {want : Byte} {m : BitVec 16} {hit : State → State}
    (h : readExpected want m hit s = .next t)
    (hhit : ∀ rest, runInv (hit (s.setLine { s.line with rxq := rest })))
    (hmiss : ∀ rest, runInv ((s.setLine { s.line with rxq := rest }).goto codeFailchk)) : runInv t := by
  have hkeep := hinv
  obtain ⟨hblk, -, hwire⟩ := hinv
  rcases readExpected_cases want m hit s with ⟨-, heq⟩ | ⟨rest, -, heq⟩ | ⟨_, rest, -, -, heq⟩ | ⟨rest, -, heq⟩ |
    ⟨rest, -, heq⟩ <;> cases heq.symm.trans h
  · exact hkeep
  · exact hhit rest
  · exact hmiss rest
  · exact runInv_raiseFault hblk hcode hwire (by decide)
  · exact runInv_raiseFault hblk hcode hwire (by decide)

end

/-! ## Timers fit -/

theorem settle_fits {p : Params} (h : paramsAdmissible p = true) : msToTicks p.fClk settleMs < 2 ^ p.timerW := by
  simp only [paramsAdmissible, Bool.and_eq_true, decide_eq_true_eq] at h
  exact h.2

theorem probe_fits {p : Params} (h : paramsAdmissible p = true) : msToTicks p.fClk p.probeDelayMs < 2 ^ p.timerW := by
  simp only [paramsAdmissible, Bool.and_eq_true, decide_eq_true_eq] at h
  exact h.1.2

theorem backoff_fits {p : Params} (h : paramsAdmissible p = true) : msToTicks p.fClk p.backoffMs < 2 ^ p.timerW := by
  simp only [paramsAdmissible, Bool.and_eq_true, decide_eq_true_eq] at h
  exact h.1.1.2

/-! ## The framer's stores keep the invariant -/

/-- S_INFO_LEN's two bytes: INFO_LEN stays 0 until the second (43_command_framer R183). -/
theorem blockInv_putLen {p : Params} {b blk : Block} {x : Byte} (h : blockInv p b) (hb : b.state = codeInfoLen)
    (hne : b.idx.toNat ≠ 2) (hput : putLen b.idx.toNat x b = .ok blk) :
    blk.state = b.state ∧ blockInv p { blk with idx := b.idx + 1#32 } := by
  obtain ⟨hsession, htransfer, hpayload, htimer⟩ := h
  obtain ⟨hbaud, hpulses, hidx, hcount, hlen, hresult⟩ := (transferInv_infoLen hb).1 htransfer
  have hregs := (sessionInv_unended hb (by decide)).1 hsession
  have ⟨_, _, _, hnone, _⟩ := hregs
  have hnosuccess : b.result ≠ .success := by rw [hnone]; decide
  have hbyte : b.idx = 0#32 ∨ b.idx = 1#32 := by bv_omega
  rcases hbyte with hi | hi <;> rw [hi] at hput hlen ⊢ <;> cases hput
  · exact ⟨rfl, (sessionInv_unended hb (by decide)).2 hregs,
      (transferInv_infoLen (b := { b with lenb := x, idx := 0#32 + 1#32 }) hb).2
        ⟨hbaud, hpulses, show (0#32 + 1#32).toNat ≤ 2 by decide, hcount, fun _ => hlen (by decide), fun h => absurd h hnosuccess⟩,
      hpayload, htimer⟩
  · exact ⟨rfl, (sessionInv_unended hb (by decide)).2 hregs,
      (transferInv_infoLen (b := { b with infoLen := len16 b.lenb x, idx := 1#32 + 1#32 }) hb).2
        ⟨hbaud, hpulses, show (1#32 + 1#32).toNat ≤ 2 by decide, hcount,
          fun h => absurd (show (1#32 + 1#32).toNat ≤ 1 from h) (by decide), fun h => absurd h hnosuccess⟩,
      hpayload, htimer⟩

/-- S_INFO_PAY stores below the capacity and counts what it stored (43_command_framer R184). -/
theorem blockInv_putPay {p : Params} {b blk : Block} {x : Byte} (h : blockInv p b) (hb : b.state = codeInfoPay)
    (hne : b.idx.toNat ≠ b.infoLen.toNat) (hput : putPay p.payloadCap b.idx.toNat x b = .ok blk) :
    blk.state = b.state ∧ blockInv p { blk with idx := b.idx + 1#32 } := by
  obtain ⟨hsession, htransfer, ⟨hwf, hbelow⟩, htimer⟩ := h
  obtain ⟨hbaud, hpulses, ⟨hlen, hcap, hidx, -⟩, -⟩ := (transferInv_infoPay hb).1 htransfer
  have hregs := (sessionInv_unended hb (by decide)).1 hsession
  have ⟨_, _, _, hnone, _⟩ := hregs
  have hnosuccess : b.result ≠ .success := by rw [hnone]; decide
  have hsucc : (b.idx + 1#32).toNat = b.idx.toNat + 1 := by bv_omega
  have hcount : (BitVec.ofNat 16 (b.idx.toNat + 1)).toNat = b.idx.toNat + 1 := by
    rw [BitVec.toNat_ofNat, Nat.mod_eq_of_lt]
    omega
  obtain ⟨hlt, rfl⟩ := putPay_eq hput
  refine ⟨rfl, (sessionInv_unended hb (by decide)).2 hregs, ?_,
    ⟨Memory.write_wf hwf .., Memory.below_write hbelow hlt⟩, htimer⟩
  refine (transferInv_infoPay (b := { b with
    payload := b.payload.write b.idx.toNat x, payCount := BitVec.ofNat 16 (b.idx.toNat + 1), idx := b.idx + 1#32 }) hb).2 ?_
  exact ⟨hbaud, hpulses, ⟨hlen, hcap, idx_succ_le hidx hne, hcount.trans hsucc.symm⟩, fun h => absurd h hnosuccess⟩

/-! ## Each state's SEQ step keeps the invariant -/

theorem runInv.wire {s : State} (h : runInv s) : s.line.onWire ≤ s.line.txlog.length := h.2.2

theorem runInv.timer {s : State} (h : runInv s) : timerInv s.params s.blk := h.1.2.2.2

/-- A move of the block within a phase, whatever LINE's receive queue. -/
theorem runInv_move {s : State} {c : StateCode} (h : runInv s) (hb : s.blk.state = c) {q : List RxEntry} (c' : StateCode)
    (i : Word) (ticks : Nat) (hphase : SamePhase c c') (hne : c' ≠ codeAckO) (hidx : i.toNat ≤ transferLen c' s.blk.pulses)
    (htimer : paramsAdmissible s.params = true → ticks < 2 ^ s.params.timerW) :
    runInv { s with blk := { s.blk with state := c', idx := i, timer := ticks }, line := { s.line with rxq := q } } :=
  ⟨blockInv_move h.1 hb c' i ticks hphase hidx htimer, lineInv_of_ne hne h.wire⟩

section
variable {s t : State} (hinv : runInv s)
include hinv

theorem execSOpen_keeps (hb : s.blk.state = codeOpen) (h : execSOpen s = .next t) : runInv t := by
  obtain ⟨hblk, -, hwire⟩ := hinv
  simp only [execSOpen, Line.requestOpen] at h
  split at h <;> rename_i hreq <;> cases h <;> obtain ⟨-, rfl⟩ := Prod.mk.inj hreq
  · obtain ⟨hsession, htransfer, hpayload, htimer⟩ := hblk
    obtain ⟨-, hregs⟩ := (sessionInv_unended hb (by decide)).1 hsession
    refine ⟨⟨(sessionInv_unended (c := codeGetcfg) rfl (by decide)).2 ⟨rfl, hregs⟩,
      (transferInv_opening (c := codeGetcfg) rfl (by decide) (by decide)).2
        ((transferInv_opening hb (by decide) (by decide)).1 htransfer), hpayload, htimer⟩,
      lineInv_of_ne (show codeGetcfg ≠ codeAckO by decide) hwire⟩
  · exact runInv_raiseFault hblk (by rw [hb]; decide) hwire (by decide)

theorem execSGetcfg_keeps (hb : s.blk.state = codeGetcfg) (h : execSGetcfg s = .next t) : runInv t := by
  obtain ⟨hblk, -, hwire⟩ := hinv
  unfold execSGetcfg at h
  rcases s.line.requestCfgGet_cases with ⟨-, heq⟩ | ⟨-, heq⟩ <;> rw [heq] at h <;> cases h
  · obtain ⟨hsession, htransfer, hpayload, htimer⟩ := hblk
    obtain ⟨hheld, -, hregs⟩ := (sessionInv_unended hb (by decide)).1 hsession
    exact ⟨⟨(sessionInv_unended (c := codeSetcfg) rfl (by decide)).2 ⟨hheld, rfl, hregs⟩,
      (transferInv_opening (c := codeSetcfg) rfl (by decide) (by decide)).2
        ((transferInv_opening hb (by decide) (by decide)).1 htransfer), hpayload, htimer⟩,
      lineInv_of_ne (show codeSetcfg ≠ codeAckO by decide) hwire⟩
  · exact runInv_raiseFault hblk (by rw [hb]; decide) hwire (by decide)

theorem execSSetcfg_keeps (hb : s.blk.state = codeSetcfg) (h : execSSetcfg s = .next t) : runInv t := by
  obtain ⟨hblk, -, hwire⟩ := hinv
  unfold execSSetcfg at h
  rcases s.line.requestCfgSet_cases s.params (rawCfg s.blk.cfgSaved s.blk.sessionBaud.toNat) with ⟨-, heq⟩ | ⟨-, heq⟩ <;>
    rw [heq] at h <;> cases h
  · exact ⟨blockInv_beginAttempt hblk (.inl hb), lineInv_of_ne (show codePulse ≠ codeAckO by decide) hwire⟩
  · exact runInv_raiseFault hblk (by rw [hb]; decide) hwire (by decide)

theorem execSPulse_keeps (hb : s.blk.state = codePulse) (h : execSPulse s = .next t) : runInv t :=
  txTransfer_keeps hinv (by rw [hb]; decide) h (by rw [hb]; decide)
    (fun _ => runInv_move hinv hb codeSettle s.blk.idx _ (by decide) (by decide) s.blk.idx.isLt.le settle_fits)
    (blockInv_count hinv.1 hb (by decide))

theorem execSSettle_keeps (hb : s.blk.state = codeSettle) (h : execSSettle s = .next t) : runInv t := by
  rw [execSSettle_eq] at h
  split at h <;> cases h
  · exact runInv_move hinv hb codeHshake 0#32 s.blk.timer (by decide) (by decide) (Nat.zero_le _) hinv.timer
  · exact hinv

theorem execSHshake_keeps (hb : s.blk.state = codeHshake) (h : execSHshake s = .next t) : runInv t :=
  txTransfer_keeps hinv (by rw [hb]; decide) h (by rw [hb]; decide)
    (fun _ => runInv_move hinv hb codeProbe s.blk.idx _ (by decide) (by decide) s.blk.idx.isLt.le probe_fits)
    (blockInv_count hinv.1 hb (by decide))

theorem execSProbe_keeps (hb : s.blk.state = codeProbe) (h : execSProbe s = .next t) : runInv t := by
  rw [execSProbe_eq] at h
  split at h <;> cases h
  · split
    · exact runInv_move hinv hb codeFailchk s.blk.idx s.blk.timer (by decide) (by decide) s.blk.idx.isLt.le hinv.timer
    · rename_i hcount
      exact ⟨blockInv_move hinv.1 hb codeAckO s.blk.idx s.blk.timer (by decide) s.blk.idx.isLt.le hinv.timer,
        fun _ => Nat.pos_of_ne_zero hcount, hinv.wire⟩
  · exact hinv

theorem execSAckO_keeps (hb : s.blk.state = codeAckO) (h : execSAckO s = .next t) : runInv t :=
  readExpected_keeps hinv (by rw [hb]; decide) h
    (fun _ => runInv_move hinv hb codeAckK s.blk.idx s.blk.timer (by decide) (by decide) s.blk.idx.isLt.le hinv.timer)
    (fun _ => runInv_move hinv hb codeFailchk s.blk.idx s.blk.timer (by decide) (by decide) s.blk.idx.isLt.le hinv.timer)

theorem execSAckK_keeps (hb : s.blk.state = codeAckK) (h : execSAckK s = .next t) : runInv t :=
  readExpected_keeps hinv (by rw [hb]; decide) h
    (fun _ => runInv_move hinv hb codeDrain 0#32 s.blk.timer (by decide) (by decide) (Nat.zero_le _) hinv.timer)
    (fun _ => runInv_move hinv hb codeFailchk s.blk.idx s.blk.timer (by decide) (by decide) s.blk.idx.isLt.le hinv.timer)

theorem execSDrain_keeps (hb : s.blk.state = codeDrain) (h : execSDrain s = .next t) : runInv t := by
  refine rxTransfer_keeps hinv (by rw [hb]; decide) h (by rw [hb]; decide)
    (fun _ => ⟨?_, lineInv_of_ne (show codeInfoTx ≠ codeAckO by decide) hinv.wire⟩) (fun hne b blk hput => ?_)
  · obtain ⟨hsession, htransfer, hpayload, htimer⟩ := hinv.1
    obtain ⟨hheld, hsaved, -, hregs⟩ := (sessionInv_unended hb (by decide)).1 hsession
    obtain ⟨hbaud, hpulses, -, hcount⟩ := (transferInv_attempt hb (by decide) (by decide)).1 htransfer
    exact ⟨(sessionInv_unended (c := codeInfoTx) rfl (by decide)).2 ⟨hheld, hsaved, rfl, hregs⟩,
      (transferInv_attempt (c := codeInfoTx) rfl (by decide) (by decide)).2 ⟨hbaud, hpulses, Nat.zero_le _, hcount⟩,
      hpayload, htimer⟩
  · cases hput
    exact ⟨rfl, blockInv_count hinv.1 hb (by decide) hne⟩

theorem execSFailchk_keeps (hb : s.blk.state = codeFailchk) (h : execSFailchk s = .next t) : runInv t := by
  unfold execSFailchk at h
  split at h <;> cases h
  · exact ⟨blockInv_end hinv.1 (by rw [hb]; decide) (.inr ⟨rfl, by rw [hb]; decide⟩),
      lineInv_of_ne (show codeRestore ≠ codeAckO by decide) hinv.wire⟩
  · exact runInv_move hinv hb codeBackoff s.blk.idx _ (by decide) (by decide) s.blk.idx.isLt.le backoff_fits

theorem execSBackoff_keeps (hb : s.blk.state = codeBackoff) (h : execSBackoff s = .next t) : runInv t := by
  rw [execSBackoff_eq] at h
  split at h <;> cases h
  · exact ⟨blockInv_beginAttempt hinv.1 (.inr hb), lineInv_of_ne (show codePulse ≠ codeAckO by decide) hinv.wire⟩
  · exact hinv

theorem execSInfoTx_keeps (hb : s.blk.state = codeInfoTx) (h : execSInfoTx s = .next t) : runInv t :=
  txTransfer_keeps hinv (by rw [hb]; decide) h (by rw [hb]; decide)
    (fun _ => runInv_move hinv hb codeInfoAck 0#32 s.blk.timer (by decide) (by decide) (Nat.zero_le _) hinv.timer)
    (blockInv_count hinv.1 hb (by decide))

theorem execSInfoAck_keeps (hb : s.blk.state = codeInfoAck) (h : execSInfoAck s = .next t) : runInv t := by
  refine rxTransfer_keeps hinv (by rw [hb]; decide) h (by rw [hb]; decide) (fun _ => ?_) (fun hne b blk hput => ?_)
  · unfold State.ackDone
    split
    · obtain ⟨hsession, htransfer, hpayload, htimer⟩ := hinv.1
      obtain ⟨hbaud, hpulses, -, hcount, hlen⟩ := (transferInv_attempt hb (by decide) (by decide)).1 htransfer
      exact ⟨⟨(sessionInv_unended (c := codeInfoLen) rfl (by decide)).2 ((sessionInv_unended hb (by decide)).1 hsession),
        (transferInv_infoLen rfl).2 ⟨hbaud, hpulses, Nat.zero_le _, hcount, fun _ => hlen, fun _ => hcount.trans hlen.symm⟩,
        hpayload, htimer⟩, lineInv_of_ne (show codeInfoLen ≠ codeAckO by decide) hinv.wire⟩
    · exact runInv_raiseFault (l := s.line) hinv.1 (by rw [hb]; decide) hinv.wire (by decide)
  · obtain ⟨ackb, rfl⟩ := putAck_writes hput
    exact ⟨rfl, blockInv_count hinv.1 hb (by decide) hne⟩

theorem execSInfoLen_keeps (hb : s.blk.state = codeInfoLen) (h : execSInfoLen s = .next t) : runInv t := by
  obtain ⟨hsession, htransfer, hpayload, htimer⟩ := hinv.1
  have hregs := (sessionInv_unended hb (by decide)).1 hsession
  obtain ⟨hbaud, hpulses, hidx, hcount, hlen, -⟩ := (transferInv_infoLen hb).1 htransfer
  refine rxTransfer_keeps hinv (by rw [hb]; decide) h (by rw [hb]; decide) (fun _ => ?_) (fun hne b blk hput => ?_)
  · unfold State.lenDone
    split
    · exact runInv_raiseFault (l := s.line) hinv.1 (by rw [hb]; decide) hinv.wire (by decide)
    rename_i hcap
    split
    · rename_i hzero
      exact ⟨blockInv_end hinv.1 (by rw [hb]; decide) (.inl ⟨rfl, by rw [hb]; decide, hcount.trans hzero.symm⟩),
        lineInv_of_ne (show codeRestore ≠ codeAckO by decide) hinv.wire⟩
    · rename_i hpositive
      have ⟨_, _, _, hnone, _⟩ := hregs
      have hstored : s.blk.payCount.toNat = 0 := by
        rw [hcount]
        rfl
      exact ⟨⟨(sessionInv_unended (c := codeInfoPay) rfl (by decide)).2 hregs,
        (transferInv_infoPay rfl).2 ⟨hbaud, hpulses, ⟨hpositive, Nat.le_of_not_lt hcap, Nat.zero_le _, hstored⟩,
          fun hsuccess => absurd (hnone.symm.trans hsuccess) nofun⟩,
        hpayload, htimer⟩, lineInv_of_ne (show codeInfoPay ≠ codeAckO by decide) hinv.wire⟩
  · exact blockInv_putLen hinv.1 hb hne hput

theorem execSInfoPay_keeps (hb : s.blk.state = codeInfoPay) (h : execSInfoPay s = .next t) : runInv t := by
  refine rxTransfer_keeps hinv (by rw [hb]; decide) h (by rw [hb]; decide) (fun hn => ?_)
    (fun hne b blk hput => blockInv_putPay hinv.1 hb hne hput)
  obtain ⟨-, htransfer, -⟩ := hinv.1
  obtain ⟨-, -, ⟨-, -, -, hcount⟩, -⟩ := (transferInv_infoPay hb).1 htransfer
  exact ⟨blockInv_end hinv.1 (by rw [hb]; decide) (.inl ⟨rfl, by rw [hb]; decide, BitVec.eq_of_toNat_eq (hcount.trans hn)⟩),
    lineInv_of_ne (show codeRestore ≠ codeAckO by decide) hinv.wire⟩

theorem execSRestore_keeps (hb : s.blk.state = codeRestore) : runInv s.restoreAndClose := by
  have hblk := blockInv_restoreAndClose hinv.1 hb
  have hwire := hinv.wire
  rcases s.restoreAndClose_cases with ⟨-, heq⟩ | ⟨-, -, heq⟩ | ⟨-, -, heq⟩ <;> rw [heq] at hblk ⊢ <;>
    exact ⟨hblk, lineInv_of_ne (show codeDone ≠ codeAckO by decide) hwire⟩

/-- In every defined state a SEQ step keeps the invariant. -/
theorem exec_decodeSeq_keeps (h : exec (decodeSeq s.blk.state) s = .next t) : runInv t := by
  have ⟨⟨⟨hcode, _⟩, _⟩, _⟩ := hinv
  rcases definedCode_cases _ hcode with hc | hc | hc | hc | hc | hc | hc | hc | hc | hc | hc | hc | hc | hc | hc | hc |
    hc | hc | hc <;> rw [hc] at h
  · cases h
    exact hinv
  · exact execSOpen_keeps hinv hc h
  · exact execSGetcfg_keeps hinv hc h
  · exact execSSetcfg_keeps hinv hc h
  · exact execSPulse_keeps hinv hc h
  · exact execSSettle_keeps hinv hc h
  · exact execSHshake_keeps hinv hc h
  · exact execSProbe_keeps hinv hc h
  · exact execSAckO_keeps hinv hc h
  · exact execSAckK_keeps hinv hc h
  · exact execSDrain_keeps hinv hc h
  · exact execSFailchk_keeps hinv hc h
  · exact execSBackoff_keeps hinv hc h
  · exact execSInfoTx_keeps hinv hc h
  · exact execSInfoAck_keeps hinv hc h
  · exact execSInfoLen_keeps hinv hc h
  · exact execSInfoPay_keeps hinv hc h
  · cases h
    exact execSRestore_keeps hinv hc
  · cases h
    exact hinv

end

/-! ## The frames and the other events keep the invariant -/

/-- A transmit step that moves IDX is the accepting one (41_byte_channel R133). -/
theorem txTransfer_moved {n : Nat} {frame : Nat → Option Byte} {s t : State} (h : txTransfer n frame id s = .next t)
    (hmoved : t.blk.idx ≠ s.blk.idx) : t.blk.state = s.blk.state ∧ t.blk.pulses = s.blk.pulses := by
  rcases txTransfer_next h with ⟨-, rfl⟩ | ⟨-, b, -, -, -, rfl⟩ | ⟨-, -, -, rfl⟩ | ⟨-, -, rfl⟩ | ⟨-, -, rfl⟩
  · exact absurd rfl hmoved
  · exact ⟨rfl, rfl⟩
  · exact absurd rfl hmoved
  · exact absurd (by rw [State.raiseFault_blk]) hmoved
  · exact absurd (by rw [State.raiseFault_blk]) hmoved

/-- A frame's bytes are its state's transfer: sending it is a run of that state's transmit steps. -/
theorem sendFrame_keepsInv {c : StateCode} {n : Nat} {frame : Nat → Option Byte} (hc : 4 ≤ c.toNat ∧ c.toNat ≤ 14)
    (hne : c ≠ codeAckO) (fuel : Nat) {s t : State} (hinv : runInv s) (hb : s.blk.state = c)
    (hlen : transferLen c s.blk.pulses = n) (h : sendFrame frame n fuel s = .next t) : runInv t := by
  induction fuel generalizing s with
  | zero =>
    cases h
    exact hinv
  | succ fuel ih =>
    unfold sendFrame at h
    split at h
    · cases h
      exact hinv
    split at h
    · rename_i u hu
      have hkeep : runInv u := txTransfer_keeps hinv (hb ▸ hc.2.trans (by decide)) hu (hb ▸ hne) (fun _ => hinv)
        (fun hn => blockInv_count hinv.1 hb hc (hlen ▸ hn))
      split at h
      · cases h
        exact hkeep
      · rename_i hmoved
        obtain ⟨hstate, hpulses⟩ := txTransfer_moved hu hmoved
        exact ih hkeep (hstate.trans hb) (hpulses ▸ hlen) h
    · cases h
    · cases h

theorem sentFrame_keepsInv {c : StateCode} {n fuel : Nat} {frame : Nat → Option Byte} {s t : State} (hinv : runInv s)
    (h : (if s.blk.state = c then sendFrame frame n fuel s else .next s) = .next t) (hc : 4 ≤ c.toNat ∧ c.toNat ≤ 14)
    (hne : c ≠ codeAckO) (hlen : transferLen c s.blk.pulses = n) : runInv t := by
  split at h
  · exact sendFrame_keepsInv hc hne fuel hinv ‹_› hlen h
  · cases h
    exact hinv

theorem State.runEncoded_wireOut_keeps {s t : State} {bs : List Byte} (hinv : runInv s)
    (h : s.runEncoded (.wireOut bs) = .next t) : runInv t := by
  rcases s.runEncoded_wireOut_cases bs with heq | heq | heq | heq <;> rw [heq] at h
  · exact sentFrame_keepsInv hinv h (by decide) (by decide) rfl
  · exact sentFrame_keepsInv hinv h (by decide) (by decide) rfl
  · exact sentFrame_keepsInv hinv h (by decide) (by decide) rfl
  · cases h

theorem runInv_hostCancel {s : State} (hinv : runInv s) : runInv s.hostCancel := by
  obtain ⟨flag, heq⟩ := execCancel_writes s
  rw [heq]
  exact hinv

/-- START leaves a busy block as it is, and any other in S_OPEN or S_DONE (44_host_interface R201). -/
theorem runInv_hostStart {s : State} (hinv : runInv s) : runInv s.hostStart := by
  have hblk := blockInv_hostStart hinv.1
  rcases s.hostStart_cases with ⟨-, heq⟩ | ⟨-, -, heq⟩ | ⟨-, -, heq⟩ <;> rw [heq] at hblk ⊢
  · exact hinv
  · exact ⟨hblk, lineInv_of_ne (show codeOpen ≠ codeAckO by decide) hinv.wire⟩
  · exact ⟨hblk, lineInv_of_ne (show codeDone ≠ codeAckO by decide) hinv.wire⟩

theorem State.runEncoded_host_keeps {s t : State} {width : Nat} {w : TxnWord} (hinv : runInv s)
    (h : s.runEncoded (.host width w) = .next t) : runInv t := by
  rcases State.runEncoded_host_next h with rfl | ⟨_, rfl⟩ | ⟨_, rfl⟩ | rfl | rfl | rfl
  · exact hinv
  · exact hinv
  · exact hinv
  · exact runInv_hostCancel hinv
  · exact runInv_hostStart hinv
  · exact runInv_hostCancel (runInv_hostStart hinv)

/-- LINE's arrivals leave a byte at the head of rxq where there was one (10_state R42). -/
theorem lineInv_arrival {b : Block} {l m : Line} {es : List RxEntry} (h : lineInv b l) (hrxq : m.rxq = l.rxq ++ es)
    (hwire : m.onWire ≤ m.txlog.length) : lineInv b m := by
  refine ⟨fun hb => (h.1 hb).trans_le ?_, hwire⟩
  rw [Line.rxCount, Line.rxCount, hrxq]
  exact countBytes_append_le ..

theorem runInv_arrival {s : State} (hinv : runInv s) (es : List RxEntry) : runInv (s.setLine (s.line.append es)) :=
  ⟨hinv.1, lineInv_arrival hinv.2 rfl hinv.wire⟩

theorem runInv_line {s : State} (hinv : runInv s) (e : LineEvent) :
    runInv (s.setLine (s.line.own s.params s.blk.lineHeld e)) := by
  obtain ⟨es, hrxq⟩ := s.line.own_rxq s.params s.blk.lineHeld e
  exact ⟨hinv.1, lineInv_arrival hinv.2 hrxq (Line.own_onWire _ _ _ _ hinv.wire)⟩

/-- TIMER may be lowered at any time. -/
theorem runInv_timer {s : State} (hinv : runInv s) {ticks : Nat} (hle : ticks ≤ s.blk.timer) :
    runInv (s.setBlk { s.blk with timer := ticks }) := by
  obtain ⟨⟨hsession, htransfer, hpayload, htimer⟩, hline⟩ := hinv
  exact ⟨⟨hsession, htransfer, hpayload, fun hp => hle.trans_lt (htimer hp)⟩, hline⟩

theorem runInv_tick {s : State} (hinv : runInv s) : runInv s.timerTick := runInv_timer hinv (Nat.sub_le ..)

/-- No instruction drives the reset pin (70_reset R270). -/
theorem exec_rst {i : Instr} {s t : State} (h : exec i s = .next t) : t.rst = s.rst := by
  obtain ⟨-, -, -, -, -, -, -, -, -, -, -, -, -, -, -, -, -, -, -, hrst, -, -⟩ := registersHaveTheirWriters i s t h
  exact hrst

theorem State.runEncoded_rst {s t : State} {x : Encoded} (h : s.runEncoded x = .next t) : t.rst = s.rst := by
  unfold State.runEncoded at h
  split at h
  · exact exec_rst h
  · unfold State.onReject at h
    split at h <;> (try split at h) <;> cases h <;> rfl

/-- A `rst` of 1 leaves the block reset, and a `rst` of 0 leaves it as it was (70_reset R270, R273). -/
theorem resetPin_inv {s : State} (hinv : runInv s) (level : Bool) : runInv (s.resetPin level) ∧ resetInv (s.resetPin level) := by
  cases level
  · exact ⟨hinv, nofun⟩
  · exact ⟨⟨blockInv_reset _, lineInv_of_ne (show codeIdle ≠ codeAckO by decide) hinv.wire⟩, fun _ => rfl⟩

/-- Outside reset every event keeps the invariant. -/
theorem State.perform_keeps_of_running {s t : State} {e : Event} (hinv : runInv s) (hrst : s.rst = false)
    (h : s.perform e = .next t) : runInv t ∧ resetInv t := by
  have hrun : ∀ {u : State}, runInv u → u.rst = false → runInv u ∧ resetInv u :=
    fun hu hurst => ⟨hu, fun htrue => absurd (hurst.symm.trans htrue) nofun⟩
  simp only [State.perform, hrst, Bool.false_and, Bool.false_eq_true, if_false] at h
  cases e with
  | seq => exact hrun (exec_decodeSeq_keeps hinv h) ((exec_rst h).trans hrst)
  | clk => exact hrun (exec_decodeSeq_keeps (runInv_tick hinv) h) ((exec_rst h).trans hrst)
  | host width w => exact hrun (State.runEncoded_host_keeps hinv h) ((State.runEncoded_rst h).trans hrst)
  | pin level =>
    refine hrun ?_ ((State.runEncoded_rst h).trans hrst)
    cases (s.runEncoded_pin level).symm.trans h
    split
    · exact runInv_hostCancel hinv
    · exact hinv
  | wireOut bs => exact hrun (State.runEncoded_wireOut_keeps hinv h) ((State.runEncoded_rst h).trans hrst)
  | syncIn bs =>
    cases (s.runEncoded_syncIn bs).symm.trans h
    exact hrun (runInv_arrival hinv _) hrst
  | infoIn bs =>
    cases (s.runEncoded_infoIn bs).symm.trans h
    exact hrun (runInv_arrival hinv _) hrst
  | line l =>
    cases h
    exact hrun (runInv_line hinv l) hrst
  | tick =>
    cases h
    exact hrun (runInv_tick hinv) hrst
  | expire =>
    cases h
    exact hrun (runInv_timer hinv (Nat.zero_le _)) hrst
  | rst level =>
    cases h
    exact resetPin_inv hinv level

/-- In reset an event blocks, or is one of LINE's or the pin's (70_reset R270, R272). -/
theorem State.perform_keeps_in_reset {s t : State} {e : Event} (hinv : runInv s) (hreset : resetInv s) (hrst : s.rst = true)
    (h : s.perform e = .next t) : runInv t ∧ resetInv t := by
  simp only [State.perform, hrst, Bool.true_and] at h
  split at h
  · rw [State.duringReset_next h]
    exact ⟨hinv, hreset⟩
  rename_i hpass
  cases e with
  | syncIn bs =>
    cases (s.runEncoded_syncIn bs).symm.trans h
    exact ⟨runInv_arrival hinv _, hreset⟩
  | infoIn bs =>
    cases (s.runEncoded_infoIn bs).symm.trans h
    exact ⟨runInv_arrival hinv _, hreset⟩
  | line l =>
    cases h
    exact ⟨runInv_line hinv l, hreset⟩
  | rst level =>
    cases h
    exact resetPin_inv hinv level
  | seq | clk | host | pin | wireOut | tick | expire => exact absurd rfl hpass

/-- Settles O52: a step performs its event from a state with the same block, LINE, parameters and reset pin. -/
theorem stepKeepsInv : Obligations.StepKeepsInv := by
  intro s t hinv h
  rw [machineInv_iff] at hinv ⊢
  obtain ⟨hrun, hreset⟩ := hinv
  have hrun' : runInv s.popEvent := by
    rwa [runInv, State.popEvent_blk, State.popEvent_line, State.popEvent_params]
  cases hrst : s.popEvent.rst with
  | false => exact State.perform_keeps_of_running hrun' hrst h
  | true =>
    refine State.perform_keeps_in_reset hrun' ?_ hrst h
    rwa [resetInv, State.popEvent_rst, State.popEvent_blk]

/-- Settles O51. -/
theorem invAtReset : Obligations.InvAtReset :=
  (machineInv_iff _).2 ⟨⟨blockInv_reset _, lineInv_of_ne (by decide) (Nat.zero_le _)⟩, nofun⟩

end Sys2Proof.Machine
end

section
/-! PROOF of OnlyFailchkReadsCancel. HOST writes two registers while a session runs, BAUD and CANCEL_FLAG. A SEQ step outside
S_FAILCHK is blind to both: it commutes with giving them any values. -/

namespace Sys2Proof.Machine

/-! ## States that differ in HOST's registers -/

/-- The block with BAUD and CANCEL_FLAG at these values. -/
def Block.withHost (b : Block) (baud : Word) (flag : Bool) : Block := { b with baud := baud, cancelFlag := flag }

/-- The state with BAUD and CANCEL_FLAG at these values. -/
def State.withHost (s : State) (baud : Word) (flag : Bool) : State := s.setBlk (s.blk.withHost baud flag)

/-- Applies `f` to a next state. -/
def mapNext (f : State → State) : Result → Result
  | .next s => .next (f s)
  | .fault r => .fault r
  | .refused r => .refused r

@[simp] theorem mapNext_next (f : State → State) (s : State) : mapNext f (.next s) = .next (f s) := rfl
@[simp] theorem mapNext_fault (f : State → State) (r : Fault) : mapNext f (.fault r) = .fault r := rfl
@[simp] theorem mapNext_refused (f : State → State) (r : Refusal) : mapNext f (.refused r) = .refused r := rfl

@[simp] theorem State.withHost_blk (s : State) (baud : Word) (flag : Bool) :
    (s.withHost baud flag).blk = s.blk.withHost baud flag := rfl
@[simp] theorem State.withHost_line (s : State) (baud : Word) (flag : Bool) : (s.withHost baud flag).line = s.line := rfl
@[simp] theorem State.withHost_params (s : State) (baud : Word) (flag : Bool) :
    (s.withHost baud flag).params = s.params := rfl
@[simp] theorem Block.withHost_idx (b : Block) (baud : Word) (flag : Bool) : (b.withHost baud flag).idx = b.idx := rfl

/-- An action that is blind to HOST's registers. -/
def BlindAction (f : State → State) : Prop :=
  ∀ (s : State) (baud : Word) (flag : Bool), f (s.withHost baud flag) = (f s).withHost baud flag

/-- A step that is blind to HOST's registers. -/
def BlindStep (f : State → Result) : Prop :=
  ∀ (s : State) (baud : Word) (flag : Bool), f (s.withHost baud flag) = mapNext (·.withHost baud flag) (f s)

theorem BlindAction.step {f : State → State} (h : BlindAction f) : BlindStep fun s => .next (f s) :=
  fun s baud flag => congrArg Host.Outcome.next (h s baud flag)

/-! ## The shared operations are blind -/

/-- The same with LINE replaced first, as the receiving steps do. -/
theorem BlindAction.withLine {f : State → State} (h : BlindAction f) (s : State) (baud : Word) (flag : Bool) (l : Line) :
    f ((s.withHost baud flag).setLine l) = (f (s.setLine l)).withHost baud flag := h (s.setLine l) baud flag

theorem raiseFault_blind (cause : Cause) (data : BitVec 16) : BlindAction (·.raiseFault cause data) := by
  intro s baud flag
  cases hsaved : s.blk.cfgSavedValid <;> cases hheld : s.blk.lineHeld <;>
    simp [State.raiseFault, State.withHost, Block.withHost, State.setBlk, hsaved, hheld]

theorem txTransfer_blind {n : Nat} {frame : Nat → Option Byte} {done : State → State} (hdone : BlindAction done) :
    BlindStep (txTransfer n frame done) := by
  intro s baud flag
  unfold txTransfer
  by_cases hn : s.blk.idx.toNat = n
  · simp [hn, hdone s baud flag]
  cases hframe : frame s.blk.idx.toNat with
  | none => simp [hn, hframe]
  | some b =>
    rcases s.line.txByte_cases b with ⟨-, -, h⟩ | ⟨-, -, h⟩ | ⟨-, h⟩ | ⟨-, h⟩ <;>
      simp [hn, hframe, h, (raiseFault_blind _ _).withLine]
    rfl

/-- A byte's place in the block is blind to HOST's registers. -/
def BlindPut (put : Nat → Byte → Block → Except Fault Block) : Prop :=
  ∀ (i : Nat) (x : Byte) (b : Block) (baud : Word) (flag : Bool),
    put i x (b.withHost baud flag) = (put i x b).map (·.withHost baud flag)

theorem rxTransfer_blind {n : Nat} {put : Nat → Byte → Block → Except Fault Block} {done : State → State}
    (hput : BlindPut put) (hdone : BlindAction done) : BlindStep (rxTransfer n put done) := by
  intro s baud flag
  unfold rxTransfer
  by_cases hn : s.blk.idx.toNat = n
  · simp [hn, hdone s baud flag]
  rcases s.line.rxByte_cases with ⟨-, h⟩ | ⟨b, rest, -, h⟩ | ⟨rest, -, h⟩ | ⟨rest, -, h⟩
  · simp [hn, h]
  · cases hok : put s.blk.idx.toNat b s.blk with
    | ok blk => simp [hn, h, hput _ _ s.blk, hok, Except.map]; rfl
    | error f => simp [hn, h, hput _ _ s.blk, hok, Except.map]
  · simp [hn, h, (raiseFault_blind _ _).withLine]
  · simp [hn, h, (raiseFault_blind _ _).withLine]

theorem readExpected_blind {want : Byte} {m : BitVec 16} {hit : State → State} (hhit : BlindAction hit) :
    BlindStep (readExpected want m hit) := by
  intro s baud flag
  unfold readExpected
  rcases s.line.rxByte_cases with ⟨-, h⟩ | ⟨b, rest, -, h⟩ | ⟨rest, -, h⟩ | ⟨rest, -, h⟩
  · simp [h]
  · by_cases hb : b = want
    · simp [h, hb, hhit.withLine]
    · simp [h, hb]; rfl
  · simp [h, (raiseFault_blind _ _).withLine]
  · simp [h, (raiseFault_blind _ _).withLine]

theorem BlindAction.ite {p : State → Prop} [DecidablePred p] {f g : State → State} (hf : BlindAction f)
    (hg : BlindAction g) (hp : ∀ s baud flag, p (s.withHost baud flag) ↔ p s) :
    BlindAction fun s => if p s then f s else g s := by
  intro s baud flag
  simp only [hp]
  split
  · exact hf s baud flag
  · exact hg s baud flag

/-- A step that waits for `p`, and holds until then. -/
theorem BlindStep.ite {p : State → Prop} [DecidablePred p] {f g : State → State} (hf : BlindAction f)
    (hg : BlindAction g) (hp : ∀ s baud flag, p (s.withHost baud flag) ↔ p s) :
    BlindStep fun s => if p s then .next (f s) else .next (g s) := by
  intro s baud flag
  simp only [hp]
  split
  · exact hf.step s baud flag
  · exact hg.step s baud flag

/-! ## Each state's SEQ step -/

theorem hold_blind : BlindStep .next := fun _ _ _ => rfl

theorem putAck_blind : BlindPut putAck
  | 0, _, _, _, _ => rfl
  | 1, _, _, _, _ => rfl
  | _ + 2, _, _, _, _ => rfl

theorem putLen_blind : BlindPut putLen
  | 0, _, _, _, _ => rfl
  | 1, _, _, _, _ => rfl
  | _ + 2, _, _, _, _ => rfl

theorem putPay_blind (cap : Nat) : BlindPut (putPay cap) := by
  intro i x b baud flag
  unfold putPay
  split <;> rfl

theorem ackDone_blind : BlindAction State.ackDone :=
  .ite (fun _ _ _ => rfl) (fun s => raiseFault_blind .infoNak s.blk.ackb s) (fun _ _ _ => Iff.rfl)

theorem lenDone_blind : BlindAction State.lenDone :=
  .ite (fun s => raiseFault_blind .alloc s.blk.infoLen s)
    (.ite (fun _ _ _ => rfl) (fun _ _ _ => rfl) (fun _ _ _ => Iff.rfl)) (fun _ _ _ => Iff.rfl)

theorem execSOpen_blind : BlindStep execSOpen := by
  intro s baud flag
  cases h : s.line.present
  · simp [execSOpen, Line.requestOpen, h, (raiseFault_blind _ _).withLine]
  · simp [execSOpen, Line.requestOpen, h]
    rfl

theorem execSGetcfg_blind : BlindStep execSGetcfg := by
  intro s baud flag
  rcases s.line.requestCfgGet_cases with ⟨-, h⟩ | ⟨-, h⟩
  · simp [execSGetcfg, h]
    rfl
  · simp [execSGetcfg, h, (raiseFault_blind _ _).withLine]

theorem execSSetcfg_blind : BlindStep execSSetcfg := by
  intro s baud flag
  rcases hanswer : s.line.requestCfgSet s.params (rawCfg s.blk.cfgSaved s.blk.sessionBaud.toNat) with ⟨ok, l⟩
  have hanswer' : (s.withHost baud flag).line.requestCfgSet (s.withHost baud flag).params
    (rawCfg (s.withHost baud flag).blk.cfgSaved (s.withHost baud flag).blk.sessionBaud.toNat) = (ok, l) := hanswer
  simp only [execSSetcfg, hanswer, hanswer']
  cases ok
  · exact congrArg Host.Outcome.next ((raiseFault_blind _ _).withLine s baud flag l)
  · rfl

theorem execSPulse_blind : BlindStep execSPulse := by
  intro s baud flag
  exact txTransfer_blind (n := s.blk.pulses.toNat) (fun _ _ _ => rfl) s baud flag

theorem execSInfoPay_blind : BlindStep execSInfoPay := by
  intro s baud flag
  exact rxTransfer_blind (n := s.blk.infoLen.toNat) (putPay_blind s.params.payloadCap) (fun _ _ _ => rfl) s baud flag

theorem restoreAndClose_blind : BlindAction State.restoreAndClose := by
  intro s baud flag
  rcases hanswer : s.line.requestCfgSet s.params s.blk.cfgSaved with ⟨ok, l⟩
  have hanswer' : (s.withHost baud flag).line.requestCfgSet (s.withHost baud flag).params
    (s.withHost baud flag).blk.cfgSaved = (ok, l) := hanswer
  simp only [State.restoreAndClose, hanswer, hanswer']
  cases ok
  · cases hresult : s.blk.result <;> simp [hresult, State.withHost, Block.withHost, State.setBlk]
  · rfl

/-- Only S_FAILCHK's SEQ step is not blind (42_sync_negotiator R159, R165). -/
theorem exec_decodeSeq_blind {c : StateCode} (hc : c ≠ codeFailchk) : BlindStep (exec (decodeSeq c)) := by
  unfold decodeSeq
  split
  case h_1 => exact hold_blind
  case h_2 => exact execSOpen_blind
  case h_3 => exact execSGetcfg_blind
  case h_4 => exact execSSetcfg_blind
  case h_5 => exact execSPulse_blind
  case h_6 => exact (BlindStep.ite (fun _ _ _ => rfl) (fun _ _ _ => rfl) (fun _ _ _ => Iff.rfl) : BlindStep execSSettle)
  case h_7 => exact (txTransfer_blind (fun _ _ _ => rfl) : BlindStep execSHshake)
  case h_8 => exact (BlindStep.ite (fun _ _ _ => rfl) (fun _ _ _ => rfl) (fun _ _ _ => Iff.rfl) : BlindStep execSProbe)
  case h_9 => exact (readExpected_blind (fun _ _ _ => rfl) : BlindStep execSAckO)
  case h_10 => exact (readExpected_blind (fun _ _ _ => rfl) : BlindStep execSAckK)
  case h_11 => exact (rxTransfer_blind (fun _ _ _ _ _ => rfl) (fun _ _ _ => rfl) : BlindStep execSDrain)
  case h_12 hcode => exact absurd (BitVec.eq_of_toNat_eq hcode) hc
  case h_13 => exact (BlindStep.ite (fun _ _ _ => rfl) (fun _ _ _ => rfl) (fun _ _ _ => Iff.rfl) : BlindStep execSBackoff)
  case h_14 => exact (txTransfer_blind (fun _ _ _ => rfl) : BlindStep execSInfoTx)
  case h_15 => exact (rxTransfer_blind putAck_blind ackDone_blind : BlindStep execSInfoAck)
  case h_16 => exact (rxTransfer_blind putLen_blind lenDone_blind : BlindStep execSInfoLen)
  case h_17 => exact execSInfoPay_blind
  case h_18 => exact restoreAndClose_blind.step
  case h_19 => exact hold_blind
  case h_20 => exact fun _ _ _ => rfl
  case h_21 => split <;> exact fun _ _ _ => rfl

/-- A step blind to BAUD does not write it. -/
theorem BlindStep.keeps_baud {f : State → Result} (hf : BlindStep f) {s t : State} (h : f s = .next t) :
    t.blk.baud = s.blk.baud := by
  have hsame := hf s s.blk.baud s.blk.cancelFlag
  have hown : s.withHost s.blk.baud s.blk.cancelFlag = s := rfl
  rw [hown, h] at hsame
  rw [Host.Outcome.next.inj hsame]
  rfl

/-- Settles O57: with BAUD left as it is, blindness to HOST's registers is blindness to CANCEL_FLAG. -/
theorem onlyFailchkReadsCancel : Obligations.OnlyFailchkReadsCancel := by
  intro s t v hstate h
  show State.perform (s.withHost s.blk.baud v) .seq = _
  cases hrst : s.rst with
  | true =>
    have hheld : ∀ u : State, u.rst = true → u.perform .seq = .next u := fun u hu => by
      simp [State.perform, State.duringReset, blockedByReset, hu]
    cases (hheld s hrst).symm.trans h
    exact hheld _ hrst
  | false =>
    rw [State.perform_seq hrst] at h
    have hblind := exec_decodeSeq_blind hstate
    rw [State.perform_seq (s := s.withHost s.blk.baud v) hrst]
    refine (hblind s s.blk.baud v).trans ?_
    rw [h, ← hblind.keeps_baud h]
    rfl

end Sys2Proof.Machine
end

section
/-! PROOF of the statements about HOST's register space: an access outside reset is decoded and run, a wrong width or offset
is refused, a reserved offset reads 0 and ignores writes, and a window word is four bytes of PAYLOAD (20_memory R61 to R66). -/

namespace Sys2Proof.Machine

/-! ## Refused accesses -/

/-- Outside reset a HOST access is decoded and run (20_memory R71). -/
theorem State.perform_host {s : State} (hrst : s.rst = false) (width : Nat) (w : TxnWord) :
    s.perform (.host width w) = s.runEncoded (.host width w) := by
  simp [State.perform, hrst]

/-- A 32-bit access with OFF bit 0 or 1 set is refused before any other of its fields is looked at (30_encoding R94). -/
theorem exec_decodeHost_of_misaligned {w : TxnWord} (h : w.getLsbD 32 = true ∨ w.getLsbD 33 = true) (s : State) :
    exec (decodeHost w) s = .refused .misaligned := by
  have hbit0 : (w.extractLsb' 32 17).getLsbD 0 = w.getLsbD 32 := by simp
  have hbit1 : (w.extractLsb' 32 17).getLsbD 1 = w.getLsbD 33 := by simp
  simp only [decodeHost, decodeFields, hbit0, hbit1]
  split
  · rfl
  next hodd =>
    rw [if_pos (h.resolve_left hodd)]
    rfl

/-- Settles O9: the width is checked before decoding, the alignment first of all by the decoder. -/
theorem badAccessRefused : Obligations.BadAccessRefused := by
  intro s width w hrst
  rw [State.perform_host hrst, State.runEncoded_host]
  refine ⟨fun hwidth => if_neg hwidth, fun hwidth hbits => ?_⟩
  rw [if_pos hwidth]
  exact exec_decodeHost_of_misaligned hbits s

/-- Settles O10: none of the five rows looks at the state or at its operands. -/
theorem stoppedRowsRefuse : Obligations.StoppedRowsRefuse := by
  intro s
  exact ⟨fun _ _ _ => rfl, fun _ _ _ => rfl, rfl, fun _ => rfl, fun _ => rfl⟩

/-! ## Reserved offsets -/

/-- Below the window every word index from 8 on is reserved to reads (20_memory R61, R62). -/
theorem decodeRead_of_reserved {idx : BitVec 14} (h : 8 ≤ idx.toNat) (data : Word) :
    decodeRead idx data = .rsvdRd idx data := by
  obtain ⟨n, hn⟩ := Nat.exists_eq_add_of_le' h
  rw [decodeRead, hn]
  rfl

/-- Below the window every word index from 8 on is reserved to writes (20_memory R61, R62). -/
theorem decodeWrite_of_reserved {idx : BitVec 14} (h : 8 ≤ idx.toNat) (data : Word) :
    decodeWrite idx data = .rsvdWr idx data := by
  obtain ⟨n, hn⟩ := Nat.exists_eq_add_of_le' h
  rw [decodeWrite, hn]
  rfl

/-- Outside reset the 32-bit read of a word index below the window runs the row decoded from that index. -/
theorem State.perform_read {s : State} (hrst : s.rst = false) (idx : BitVec 14) (data : Word) :
    s.perform (.host 32 (txnWord 0#1 (wordOffset 0#1 idx) data)) = exec (decodeRead idx data) s :=
  (State.perform_host hrst ..).trans (State.runEncoded_of_decode (decode_encodeRead idx data) s)

/-- Outside reset the 32-bit write of a word index below the window runs the row decoded from that index. -/
theorem State.perform_write {s : State} (hrst : s.rst = false) (idx : BitVec 14) (data : Word) :
    s.perform (.host 32 (txnWord 1#1 (wordOffset 0#1 idx) data)) = exec (decodeWrite idx data) s :=
  (State.perform_host hrst ..).trans (State.runEncoded_of_decode (decode_encodeWrite idx data) s)

/-- Settles O15: an index from 8 on selects the reserved rows, which read 0 and do nothing. -/
theorem reservedOffsets : Obligations.ReservedOffsets := by
  intro s idx d hrst hidx
  have hread := State.perform_read hrst idx d
  have hwrite := State.perform_write hrst idx d
  rw [decodeRead_of_reserved hidx] at hread
  rw [decodeWrite_of_reserved hidx] at hwrite
  exact ⟨hread, hwrite, rfl, rfl⟩

/-! ## The payload window -/

/-- Byte lane j of four bytes put together, the one of lane 3 first. -/
theorem extractLsb'_lane (lane : Nat → Byte) {j : Nat} (hj : j < 4) :
    (lane 3 ++ lane 2 ++ lane 1 ++ lane 0).extractLsb' (8 * j) 8 = lane j := by
  apply BitVec.eq_of_getLsbD_eq
  intro i hi
  simp only [BitVec.getLsbD_extractLsb', BitVec.getLsbD_append]
  interval_cases j <;> grind

/-- Byte lane j of the window's word k is byte 4k + j of the window (20_memory R64). -/
theorem Block.windowWord_lane (b : Block) (k : Nat) {j : Nat} (hj : j < 4) :
    (b.windowWord k).extractLsb' (8 * j) 8 = b.windowByte (4 * k + j) :=
  extractLsb'_lane (fun i => b.windowByte (4 * k + i)) hj

/-- Settles O19: the value read is the window's word, and PAY_COUNT gates each of its bytes. -/
theorem payloadWindowRead : Obligations.PayloadWindowRead := by
  intro s k d
  exact ⟨s.blk.windowWord k.toNat, rfl, fun _ hj => s.blk.windowWord_lane k.toNat hj⟩

end Sys2Proof.Machine
end

section
/-! PROOF of DecodeOfEncode and EncodeOfDecode. Each reader of the decoder inverts its part of the encoder: a word is the word
of its fields, an offset is its upper bits above its alignment bits, and a length is its two bytes (30_encoding R81 to R87,
R94, R98). -/

namespace Sys2Proof.Machine

/-! ## The fields of a transaction word -/

/-- A CTRL write with bit 0 is START (30_encoding R95). -/
theorem decodeCtrl_of_start {data : Word} (h0 : data.getLsbD 0 = true) : decodeCtrl data = .start data := if_pos h0

/-- A CTRL write with bit 1 and without bit 0 is CANCEL (30_encoding R95). -/
theorem decodeCtrl_of_cancel {data : Word} (h0 : data.getLsbD 0 = false) (h1 : data.getLsbD 1 = true) :
    decodeCtrl data = .cancel data := by
  rw [decodeCtrl, h0, h1]
  rfl

/-- A CTRL write without an action bit is CTRL_NOP (30_encoding R95). -/
theorem decodeCtrl_of_nop {data : Word} (h0 : data.getLsbD 0 = false) (h1 : data.getLsbD 1 = false) :
    decodeCtrl data = .ctrlNop data := by
  rw [decodeCtrl, h0, h1]
  rfl

theorem odd_bit0 (hi : BitVec 16) : (hi ++ 1#1 : Offset).getLsbD 0 = true := by grind

theorem two_bit0 (hi : BitVec 15) : ¬ (hi ++ 2#2 : Offset).getLsbD 0 = true := by grind

theorem two_bit1 (hi : BitVec 15) : (hi ++ 2#2 : Offset).getLsbD 1 = true := by grind

/-- An odd offset makes the access MISALIGNED_B0, whatever its other fields (30_encoding R94). -/
theorem decodeFields_odd (we : BitVec 1) (hi : BitVec 16) (data : Word) :
    decodeFields we (hi ++ 1#1) data = .misalignedB0 we hi data := by
  have hhi : (hi ++ 1#1 : Offset).extractLsb' 1 16 = hi := BitVec.extractLsb'_append_eq_left
  rw [decodeFields, if_pos (odd_bit0 hi), hhi]

/-- An even offset that is no multiple of 4 makes the access MISALIGNED_B1 (30_encoding R94). -/
theorem decodeFields_two (we : BitVec 1) (hi : BitVec 15) (data : Word) :
    decodeFields we (hi ++ 2#2) data = .misalignedB1 we hi data := by
  have hhi : (hi ++ 2#2 : Offset).extractLsb' 2 15 = hi := BitVec.extractLsb'_append_eq_left
  rw [decodeFields, if_neg (two_bit0 hi), if_pos (two_bit1 hi), hhi]

/-- An aligned offset is read by its page and its word index (20_memory R61). -/
theorem decodeFields_wordOffset (we page : BitVec 1) (idx : BitVec 14) (data : Word) :
    decodeFields we (wordOffset page idx) data =
      if page = 1#1 then (if we = 1#1 then .payWr idx data else .payRd idx data)
      else if we = 1#1 then decodeWrite idx data else decodeRead idx data := by
  have hpage : page[0] = true ↔ page = 1#1 := by revert page; decide
  simp [decodeFields, hpage]

/-- An offset is odd, or even but no multiple of 4, or the offset of a word. -/
theorem offset_cases (off : Offset) :
    (∃ hi : BitVec 16, off = hi ++ 1#1) ∨ (∃ hi : BitVec 15, off = hi ++ 2#2) ∨ ∃ page idx, off = wordOffset page idx := by
  by_cases h0 : off.getLsbD 0 = true
  · refine .inl ⟨off.extractLsb' 1 16, BitVec.eq_of_getLsbD_eq fun i hi => ?_⟩
    grind
  by_cases h1 : off.getLsbD 1 = true
  · refine .inr (.inl ⟨off.extractLsb' 2 15, BitVec.eq_of_getLsbD_eq fun i hi => ?_⟩)
    grind
  · refine .inr (.inr ⟨off.extractLsb' 16 1, off.extractLsb' 2 14, BitVec.eq_of_getLsbD_eq fun i hi => ?_⟩)
    simp only [wordOffset]
    grind

/-- A bit is 0 or 1. -/
theorem bit_cases : ∀ b : BitVec 1, b = 0#1 ∨ b = 1#1 := by decide

/-- The word indices of the eight registers (20_memory R61). -/
theorem registerIdx_cases {idx : BitVec 14} (h : ¬ 8 ≤ idx.toNat) :
    idx = 0#14 ∨ idx = 1#14 ∨ idx = 2#14 ∨ idx = 3#14 ∨ idx = 4#14 ∨ idx = 5#14 ∨ idx = 6#14 ∨ idx = 7#14 := by
  bv_omega

/-! ## Encoding, then decoding -/

/-- An access to the payload window is decoded from its word index (20_memory R64). -/
theorem decode_window (we : BitVec 1) (k : BitVec 14) (data : Word) :
    decode (.host 32 (txnWord we (wordOffset 1#1 k) data)) = .ok (if we = 1#1 then .payWr k data else .payRd k data) := by
  rw [decode, if_pos rfl, decodeHost_txnWord, decodeFields_wordOffset, if_pos rfl]

/-- An info response is decoded where its payload has the length it announces (30_encoding R86). -/
theorem decodeInfo_infoBytes {len : BitVec 16} {payload : List Byte} (h : payload.length = len.toNat) :
    decodeInfo (infoBytes len payload) = .ok (.infoResp len payload) := by
  simp [decodeInfo, infoBytes, len16_bytes, h, ackValid]

/-- Settles O1: a register's row is decoded from its word index, and every other row by the rule of its format. -/
theorem decodeOfEncode : Obligations.DecodeOfEncode := by
  intro i hwf
  cases i with
  | start data => exact (decode_encodeWrite 0#14 data).trans (congrArg Except.ok (decodeCtrl_of_start hwf))
  | cancel data =>
    obtain ⟨h0, h1⟩ : data.getLsbD 0 = false ∧ data.getLsbD 1 = true := by simpa [Instr.wellFormed] using hwf
    exact (decode_encodeWrite 0#14 data).trans (congrArg Except.ok (decodeCtrl_of_cancel h0 h1))
  | ctrlNop data =>
    obtain ⟨h0, h1⟩ : data.getLsbD 0 = false ∧ data.getLsbD 1 = false := by simpa [Instr.wellFormed] using hwf
    exact (decode_encodeWrite 0#14 data).trans (congrArg Except.ok (decodeCtrl_of_nop h0 h1))
  | baudWr data | statusWr data | attemptsWr data | pulsesWr data | infoLenWr data | faultInfoWr data | payCountWr data =>
    exact decode_encodeWrite _ data
  | ctrlRd data | baudRd data | statusRd data | attemptsRd data | pulsesRd data | infoLenRd data | faultInfoRd data
  | payCountRd data => exact decode_encodeRead _ data
  | payWr k data => exact decode_window 1#1 k data
  | payRd k data => exact decode_window 0#1 k data
  | rsvdWr idx data =>
    exact (decode_encodeWrite idx data).trans (congrArg Except.ok (decodeWrite_of_reserved (of_decide_eq_true hwf) data))
  | rsvdRd idx data =>
    exact (decode_encodeRead idx data).trans (congrArg Except.ok (decodeRead_of_reserved (of_decide_eq_true hwf) data))
  | misalignedB0 we hi data =>
    rw [encode, decode, if_pos rfl, decodeHost_txnWord, decodeFields_odd]
  | misalignedB1 we hi data =>
    rw [encode, decode, if_pos rfl, decodeHost_txnWord, decodeFields_two]
  | infoResp len payload => exact decodeInfo_infoBytes (eq_of_beq hwf)
  | reservedState14 lo => revert lo; decide
  | reservedState18 lo => revert lo; decide
  | cancelIn | pulse | handshake | infoCmd | syncAck | sIdle | sOpen | sGetcfg | sSetcfg | sPulse | sSettle | sHshake
  | sProbe | sAckO | sAckK | sDrain | sFailchk | sBackoff | sInfoTx | sInfoAck | sInfoLen | sInfoPay | sRestore | sDone
  | reservedState13 => rfl

/-! ## Decoding, then encoding -/

/-- The instruction is well formed, and this is its encoding. -/
def EncodedAs (i : Instr) (x : Encoded) : Prop := i.wellFormed = true ∧ encode i = x

theorem decodeCtrl_encodedAs (data : Word) : EncodedAs (decodeCtrl data) (encodeWrite 0#14 data) := by
  cases h0 : data.getLsbD 0 with
  | true =>
    rw [decodeCtrl_of_start h0]
    exact ⟨h0, rfl⟩
  | false =>
    cases h1 : data.getLsbD 1 with
    | true =>
      rw [decodeCtrl_of_cancel h0 h1]
      exact ⟨by rw [Instr.wellFormed, h0, h1]; rfl, rfl⟩
    | false =>
      rw [decodeCtrl_of_nop h0 h1]
      exact ⟨by rw [Instr.wellFormed, h0, h1]; rfl, rfl⟩

theorem decodeWrite_encodedAs (idx : BitVec 14) (data : Word) : EncodedAs (decodeWrite idx data) (encodeWrite idx data) := by
  by_cases hidx : 8 ≤ idx.toNat
  · rw [decodeWrite_of_reserved hidx]
    exact ⟨decide_eq_true hidx, rfl⟩
  rcases registerIdx_cases hidx with rfl | rfl | rfl | rfl | rfl | rfl | rfl | rfl
  · exact decodeCtrl_encodedAs data
  all_goals exact ⟨rfl, rfl⟩

theorem decodeRead_encodedAs (idx : BitVec 14) (data : Word) : EncodedAs (decodeRead idx data) (encodeRead idx data) := by
  by_cases hidx : 8 ≤ idx.toNat
  · rw [decodeRead_of_reserved hidx]
    exact ⟨decide_eq_true hidx, rfl⟩
  rcases registerIdx_cases hidx with rfl | rfl | rfl | rfl | rfl | rfl | rfl | rfl <;> exact ⟨rfl, rfl⟩

theorem decodeFields_encodedAs (we : BitVec 1) (off : Offset) (data : Word) :
    EncodedAs (decodeFields we off data) (.host 32 (txnWord we off data)) := by
  rcases offset_cases off with ⟨hi, rfl⟩ | ⟨hi, rfl⟩ | ⟨page, idx, rfl⟩
  · rw [decodeFields_odd]
    exact ⟨rfl, rfl⟩
  · rw [decodeFields_two]
    exact ⟨rfl, rfl⟩
  rw [decodeFields_wordOffset]
  rcases bit_cases page with rfl | rfl <;> rcases bit_cases we with rfl | rfl
  · exact decodeRead_encodedAs idx data
  · exact decodeWrite_encodedAs idx data
  · exact ⟨rfl, rfl⟩
  · exact ⟨rfl, rfl⟩

/-- Every transaction word is the encoding of the row it selects (30_encoding R94). -/
theorem decodeHost_encodedAs (w : TxnWord) : EncodedAs (decodeHost w) (.host 32 w) := by
  have h := decodeFields_encodedAs (w.extractLsb' 49 1) (w.extractLsb' 32 17) (w.extractLsb' 0 32)
  rwa [txnWord_fields] at h

/-- Every code is the encoding of the state, or the reserved row, it names (30_encoding R98, R100). -/
theorem decodeSeq_encodedAs : ∀ code : StateCode, EncodedAs (decodeSeq code) (.seq code) := by
  unfold EncodedAs
  decide

theorem decodeWireOut_encodedAs {bs : List Byte} {i : Instr} (h : decodeWireOut bs = .ok i) : EncodedAs i (.wireOut bs) := by
  unfold decodeWireOut at h
  split at h
  · cases h
    exact ⟨rfl, congrArg Encoded.wireOut (Eq.symm ‹_›)⟩
  split at h
  · cases h
    exact ⟨rfl, congrArg Encoded.wireOut (Eq.symm ‹_›)⟩
  split at h <;> cases h
  exact ⟨rfl, congrArg Encoded.wireOut (Eq.symm ‹_›)⟩

theorem decodeSync_encodedAs {bs : List Byte} {i : Instr} (h : decodeSync bs = .ok i) : EncodedAs i (.syncIn bs) := by
  rcases decodeSync_cases bs with ⟨t0, t1, t2, heq, rfl⟩ | heq <;> cases heq.symm.trans h
  exact ⟨rfl, rfl⟩

theorem decodeInfo_encodedAs {bs : List Byte} {i : Instr} (h : decodeInfo bs = .ok i) : EncodedAs i (.infoIn bs) := by
  rcases decodeInfo_cases bs with ⟨len, payload, heq, rfl⟩ | heq <;> cases heq.symm.trans h
  refine ⟨?_, rfl⟩
  simpa [decodeInfo, infoBytes, len16_bytes, ackValid, Instr.wellFormed] using heq

/-- Settles O2, form by form. -/
theorem encodeOfDecode : Obligations.EncodeOfDecode := by
  intro x i h
  cases x with
  | host width w =>
    simp only [decode] at h
    split at h <;> cases h
    subst width
    exact decodeHost_encodedAs w
  | pin level =>
    simp only [decode] at h
    split at h <;> cases h
    subst level
    exact ⟨rfl, rfl⟩
  | wireOut bs => exact decodeWireOut_encodedAs h
  | syncIn bs => exact decodeSync_encodedAs h
  | infoIn bs => exact decodeInfo_encodedAs h
  | seq code =>
    cases h
    exact decodeSeq_encodedAs code

end Sys2Proof.Machine
end

section
/-! PROOF of DecodeSelectsFirstRow. A row of the table is hit by a word of an aligned offset exactly when its page, its word
index and its action bits agree; so the first row hit is found by the same split the decoder makes (30_encoding R94). -/

namespace Sys2Proof.Machine

/-! ## When a row is hit -/

/-- The row of a register, or of an action of CTRL: the whole offset is matched, and DATA under its mask. -/
def registerRow (we : BitVec 1) (idx : BitVec 14) (bits mask : Word) : HostRow :=
  ⟨txnWord we (wordOffset 0#1 idx) bits, txnWord 1#1 0x1FFFF#17 mask⟩

/-- The row of a page: the payload window, or the reserved rest of the register space. -/
def pageRow (we page : BitVec 1) : HostRow := ⟨txnWord we (wordOffset page 0#14) 0#32, txnWord 1#1 0x10003#17 0#32⟩

/-- The row of the offsets with bit `n` of the word set. -/
def bitRow (n : Nat) : HostRow := ⟨BitVec.twoPow 50 n, BitVec.twoPow 50 n⟩

/-- The table of 30_encoding R94 in these terms. -/
theorem hostTable_eq : hostTable =
    [registerRow 1#1 0#14 1#32 1#32, registerRow 1#1 0#14 2#32 2#32, registerRow 1#1 0#14 0#32 3#32,
     registerRow 1#1 1#14 0#32 0#32, registerRow 1#1 2#14 0#32 0#32, registerRow 1#1 3#14 0#32 0#32,
     registerRow 1#1 4#14 0#32 0#32, registerRow 1#1 5#14 0#32 0#32, registerRow 1#1 6#14 0#32 0#32,
     registerRow 1#1 7#14 0#32 0#32, pageRow 1#1 1#1,
     registerRow 0#1 0#14 0#32 0#32, registerRow 0#1 1#14 0#32 0#32, registerRow 0#1 2#14 0#32 0#32,
     registerRow 0#1 3#14 0#32 0#32, registerRow 0#1 4#14 0#32 0#32, registerRow 0#1 5#14 0#32 0#32,
     registerRow 0#1 6#14 0#32 0#32, registerRow 0#1 7#14 0#32 0#32, pageRow 0#1 1#1,
     pageRow 1#1 0#1, pageRow 0#1 0#1, bitRow 32, bitRow 33] := by decide

theorem wordOffset_inj {page page' : BitVec 1} {idx idx' : BitVec 14} :
    wordOffset page idx = wordOffset page' idx' ↔ page = page' ∧ idx = idx' := by
  refine ⟨fun h => ⟨?_, ?_⟩, fun ⟨hpage, hidx⟩ => by rw [hpage, hidx]⟩
  · have hbit : page[0] = page'[0] := by rw [← wordOffset_page page idx, h, wordOffset_page]
    clear h
    revert page page'
    decide
  · rw [← wordOffset_idx page idx, h, wordOffset_idx]

/-- A mask of one bit leaves that bit exactly where it is set. -/
theorem and_twoPow_eq_self_iff {w : Nat} (x : BitVec w) {i : Nat} (hi : i < w) :
    x &&& BitVec.twoPow w i = BitVec.twoPow w i ↔ x.getLsbD i = true := by
  have hne : (0#w) ≠ BitVec.twoPow w i := fun h => by
    simpa [BitVec.getLsbD_twoPow, hi] using congrArg (·.getLsbD i) h
  rw [BitVec.and_twoPow]
  split <;> simp_all

theorem registerRow_hit (we page we' : BitVec 1) (idx idx' : BitVec 14) (data bits mask : Word) :
    (registerRow we' idx' bits mask).hit (txnWord we (wordOffset page idx) data) =
      decide (we = we' ∧ (page = 0#1 ∧ idx = idx') ∧ data &&& mask = bits) := by
  have hwe : we &&& 1#1 = we := by revert we; decide
  have hoff : wordOffset page idx &&& 0x1FFFF#17 = wordOffset page idx := BitVec.and_allOnes
  rw [Bool.eq_iff_iff, registerRow, hit_txnWord, hwe, hoff, wordOffset_inj, decide_eq_true_iff]

theorem pageRow_hit (we page we' page' : BitVec 1) (idx : BitVec 14) (data : Word) :
    (pageRow we' page').hit (txnWord we (wordOffset page idx) data) = decide (we = we' ∧ page = page') := by
  have hwe : we &&& 1#1 = we := by revert we; decide
  rw [Bool.eq_iff_iff, pageRow, hit_txnWord, hwe, Laws.MatchesRow.wordOffset_mask, wordOffset_inj, decide_eq_true_iff]
  simp

theorem bitRow_hit {n : Nat} (hn : n < 50) (w : TxnWord) : (bitRow n).hit w = w.getLsbD n := by
  rw [Bool.eq_iff_iff, bitRow, HostRow.hit, beq_iff_eq, and_twoPow_eq_self_iff w hn]

/-! ## The first row hit -/

/-- The first row in file order that an aligned access matches. -/
def firstRow (we page : BitVec 1) (idx : BitVec 14) (data : Word) : Nat :=
  hostTable.findIdx fun r => r.hit (txnWord we (wordOffset page idx) data)

theorem firstRow_window (we : BitVec 1) (idx : BitVec 14) (data : Word) :
    firstRow we 1#1 idx data = if we = 1#1 then 10 else 19 := by
  rcases bit_cases we with rfl | rfl <;>
    simp [firstRow, hostTable_eq, List.findIdx_cons, registerRow_hit, pageRow_hit]

theorem firstRow_reserved (we : BitVec 1) {idx : BitVec 14} (h : 8 ≤ idx.toNat) (data : Word) :
    firstRow we 0#1 idx data = if we = 1#1 then 20 else 21 := by
  have hne (k : BitVec 14) (hk : k.toNat < 8) : idx ≠ k := fun heq => absurd (heq ▸ h) (by omega)
  rcases bit_cases we with rfl | rfl <;>
    simp [firstRow, hostTable_eq, List.findIdx_cons, registerRow_hit, pageRow_hit, hne]

/-- The three CTRL rows come in the order in which the decoder looks at the action bits (30_encoding R95). -/
theorem decodeCtrl_row (data : Word) : (decodeCtrl data).hostRow? = some (firstRow 1#1 0#1 0#14 data) := by
  have hbit0 : data &&& 1#32 = 1#32 ↔ data.getLsbD 0 = true := and_twoPow_eq_self_iff data (i := 0) (by decide)
  have hbit1 : data &&& 2#32 = 2#32 ↔ data.getLsbD 1 = true := and_twoPow_eq_self_iff data (i := 1) (by decide)
  simp only [firstRow, hostTable_eq, List.findIdx_cons, registerRow_hit, hbit0, hbit1]
  cases h0 : data.getLsbD 0 with
  | true => rw [decodeCtrl_of_start h0]; rfl
  | false =>
    cases h1 : data.getLsbD 1 with
    | true => rw [decodeCtrl_of_cancel h0 h1]; rfl
    | false =>
      rw [decodeCtrl_of_nop h0 h1, Laws.MatchesRow.and_three_of_bits h0 h1]
      rfl

theorem decodeWrite_row (idx : BitVec 14) (data : Word) :
    (decodeWrite idx data).hostRow? = some (firstRow 1#1 0#1 idx data) := by
  by_cases h : 8 ≤ idx.toNat
  · rw [decodeWrite_of_reserved h, firstRow_reserved _ h]
    rfl
  rcases registerIdx_cases h with rfl | rfl | rfl | rfl | rfl | rfl | rfl | rfl
  · exact decodeCtrl_row data
  all_goals
    simp only [firstRow, hostTable_eq, List.findIdx_cons, registerRow_hit, BitVec.and_zero]
    rfl

theorem decodeRead_row (idx : BitVec 14) (data : Word) :
    (decodeRead idx data).hostRow? = some (firstRow 0#1 0#1 idx data) := by
  by_cases h : 8 ≤ idx.toNat
  · rw [decodeRead_of_reserved h, firstRow_reserved _ h]
    rfl
  rcases registerIdx_cases h with rfl | rfl | rfl | rfl | rfl | rfl | rfl | rfl <;>
    simp only [firstRow, hostTable_eq, List.findIdx_cons, registerRow_hit, pageRow_hit, BitVec.and_zero] <;> rfl

/-- The row a word selects, by OFF bits 0 and 1 before the rest of the table (30_encoding R94). -/
theorem hostRowNumber_txnWord (we : BitVec 1) (off : Offset) (data : Word) : hostRowNumber (txnWord we off data) =
    if off.getLsbD 0 = true then 22 else if off.getLsbD 1 = true then 23
    else hostTable.findIdx fun r => r.hit (txnWord we off data) := by
  have hbit (i : Nat) (hi : i < 17) : (bitRow (32 + i)).hit (txnWord we off data) = off.getLsbD i := by
    rw [bitRow_hit (by omega)]
    conv_rhs => rw [← txnWord_off we off data, BitVec.getLsbD_extractLsb']
    simp [hi]
  rw [← hbit 0 (by decide), ← hbit 1 (by decide)]
  rfl

theorem decodeFields_row (we : BitVec 1) (off : Offset) (data : Word) :
    (decodeFields we off data).hostRow? = some (hostRowNumber (txnWord we off data)) := by
  rw [hostRowNumber_txnWord]
  rcases offset_cases off with ⟨hi, rfl⟩ | ⟨hi, rfl⟩ | ⟨page, idx, rfl⟩
  · rw [decodeFields_odd, if_pos (odd_bit0 hi)]
    rfl
  · rw [decodeFields_two, if_neg (two_bit0 hi), if_pos (two_bit1 hi)]
    rfl
  have hrow : (decodeFields we (wordOffset page idx) data).hostRow? = some (firstRow we page idx data) := by
    rw [decodeFields_wordOffset]
    rcases bit_cases page with rfl | rfl <;> rcases bit_cases we with rfl | rfl
    · exact decodeRead_row idx data
    · exact decodeWrite_row idx data
    · rw [firstRow_window]; rfl
    · rw [firstRow_window]; rfl
  simpa [firstRow] using hrow

/-- Settles O3: every word is a word of fields. -/
theorem decodeSelectsFirstRow : Obligations.DecodeSelectsFirstRow := by
  intro w
  have h := decodeFields_row (w.extractLsb' 49 1) (w.extractLsb' 32 17) (w.extractLsb' 0 32)
  rwa [txnWord_fields] at h

end Sys2Proof.Machine
end

section
/-! PROOF of ReservedCodesNeverWritten. STATE is written with named codes only: by the final action of a state's step, by
fault entry, by START and by reset; every other step keeps the code it finds (30_encoding R98, R100). -/

namespace Sys2Proof.Machine

/-- STATE holds a code that R98 defines. -/
def Defined (s : State) : Prop := s.blk.state.toNat ≤ 0x12

/-! ## The actions that write STATE -/

theorem Defined.goto (s : State) (c : StateCode) (hc : c.toNat ≤ 0x12) : Defined (s.goto c) := hc

/-- Fault entry goes to S_RESTORE or to S_DONE (60_exceptions R241). -/
theorem Defined.raiseFault (s : State) (cause : Cause) (data : BitVec 16) : Defined (s.raiseFault cause data) := by
  rw [Defined, State.raiseFault_blk]
  dsimp only
  split <;> decide

theorem Defined.beginAttempt (s : State) : Defined s.beginAttempt := show codePulse.toNat ≤ 0x12 by decide

theorem Defined.ackDone (s : State) : Defined s.ackDone := by
  unfold State.ackDone
  split
  · exact .goto _ _ (by decide)
  · exact .raiseFault ..

theorem Defined.lenDone (s : State) : Defined s.lenDone := by
  unfold State.lenDone
  split
  · exact .raiseFault ..
  split
  · exact .goto _ _ (by decide)
  · exact .goto _ _ (by decide)

theorem Defined.restoreAndClose (s : State) : Defined s.restoreAndClose := by
  rcases s.restoreAndClose_cases with ⟨-, h⟩ | ⟨-, -, h⟩ | ⟨-, -, h⟩ <;> rw [h] <;>
    exact show codeDone.toNat ≤ 0x12 by decide

theorem Defined.hostCancel {s : State} (hs : Defined s) : Defined s.hostCancel := by
  rwa [Defined, State.hostCancel_state]

/-- START goes to S_OPEN or to S_DONE, or is ignored (44_host_interface R201). -/
theorem Defined.hostStart {s : State} (hs : Defined s) : Defined s.hostStart := by
  rcases s.hostStart_cases with ⟨-, h⟩ | ⟨-, -, h⟩ | ⟨-, -, h⟩ <;> rw [h]
  · exact hs
  · exact show codeOpen.toNat ≤ 0x12 by decide
  · exact show codeDone.toNat ≤ 0x12 by decide

theorem Defined.of_ite {p : Prop} [Decidable p] {t u v : State} (ht : Defined t) (hu : Defined u)
    (h : (if p then Host.Outcome.next t else .next u : Result) = .next v) : Defined v := by
  split at h <;> cases h
  · exact ht
  · exact hu

/-! ## The templates -/

theorem Defined.txTransfer {n : Nat} {frame : Nat → Option Byte} {done : State → State} {s t : State} (hs : Defined s)
    (hdone : Defined (done s)) (h : txTransfer n frame done s = .next t) : Defined t := by
  rcases txTransfer_next h with ⟨-, rfl⟩ | ⟨-, b, -, -, -, rfl⟩ | ⟨-, -, -, rfl⟩ | ⟨-, -, rfl⟩ | ⟨-, -, rfl⟩
  · exact hdone
  · exact hs
  · exact hs
  · exact .raiseFault ..
  · exact .raiseFault ..

theorem Defined.rxTransfer {n : Nat} {put : Nat → Byte → Block → Except Fault Block} {done : State → State} {s t : State}
    (hs : Defined s) (hput : ∀ i b blk, put i b s.blk = .ok blk → blk.state = s.blk.state) (hdone : Defined (done s))
    (h : rxTransfer n put done s = .next t) : Defined t := by
  rcases rxTransfer_next h with ⟨-, rfl⟩ | ⟨-, b, rest, blk, -, hblk, rfl⟩ | ⟨-, -, rfl⟩ | ⟨-, rest, -, rfl⟩ |
    ⟨-, rest, -, rfl⟩
  · exact hdone
  · exact (congrArg BitVec.toNat (hput _ _ _ hblk)).trans_le hs
  · exact hs
  · exact .raiseFault ..
  · exact .raiseFault ..

theorem Defined.readExpected {want : Byte} {m : BitVec 16} {hit : State → State} {s t : State} (hs : Defined s)
    (hhit : ∀ u, Defined (hit u)) (h : readExpected want m hit s = .next t) : Defined t := by
  rcases readExpected_cases want m hit s with ⟨-, heq⟩ | ⟨_, -, heq⟩ | ⟨_, _, -, -, heq⟩ | ⟨_, -, heq⟩ | ⟨_, -, heq⟩ <;>
    cases heq.symm.trans h
  · exact hs
  · exact hhit _
  · exact .goto _ codeFailchk (by decide)
  · exact .raiseFault ..
  · exact .raiseFault ..

theorem Defined.sentFrame {p : Prop} [Decidable p] {n : Nat} {frame : Nat → Option Byte} {fuel : Nat} {s t : State}
    (hs : Defined s) (h : (if p then sendFrame frame n fuel s else .next s) = .next t) : Defined t := by
  split at h
  · exact sendFrame_keeps (fun u v hu _ hv => hu.txTransfer hu hv) fuel s t hs h
  · cases h
    exact hs

/-! ## Each state's step -/

theorem putAck_state {i : Nat} {b : Byte} {k blk : Block} (h : putAck i b k = .ok blk) : blk.state = k.state := by
  obtain ⟨_, rfl⟩ := putAck_writes h
  rfl

theorem putLen_state {i : Nat} {b : Byte} {k blk : Block} (h : putLen i b k = .ok blk) : blk.state = k.state := by
  obtain ⟨_, _, rfl⟩ := putLen_writes h
  rfl

theorem putPay_state {cap i : Nat} {b : Byte} {k blk : Block} (h : putPay cap i b k = .ok blk) : blk.state = k.state := by
  obtain ⟨-, rfl⟩ := putPay_eq h
  rfl

theorem execSOpen_defined {s t : State} (h : execSOpen s = .next t) : Defined t := by
  unfold execSOpen at h
  split at h <;> cases h
  · exact show codeGetcfg.toNat ≤ 0x12 by decide
  · exact .raiseFault ..

theorem execSGetcfg_defined {s t : State} (h : execSGetcfg s = .next t) : Defined t := by
  unfold execSGetcfg at h
  split at h <;> cases h
  · exact show codeSetcfg.toNat ≤ 0x12 by decide
  · exact .raiseFault ..

theorem execSSetcfg_defined {s t : State} (h : execSSetcfg s = .next t) : Defined t := by
  unfold execSSetcfg at h
  split at h <;> cases h
  · exact .beginAttempt _
  · exact .raiseFault ..

/-- S_PROBE goes to S_FAILCHK or to S_ACK_O (42_sync_negotiator R155). -/
theorem execSProbe_defined {s t : State} (hs : Defined s) (h : execSProbe s = .next t) : Defined t := by
  refine .of_ite (.goto s _ ?_) hs h
  split <;> decide

/-- S_DRAIN puts its bytes nowhere (42_sync_negotiator R158). -/
theorem execSDrain_defined {s t : State} (hs : Defined s) (h : execSDrain s = .next t) : Defined t := by
  have hdone : Defined (s.setBlk { s.blk with synced := true, idx := 0#32, state := codeInfoTx }) :=
    show codeInfoTx.toNat ≤ 0x12 by decide
  exact hs.rxTransfer (fun i b blk hput => by cases hput; rfl) hdone h

/-- A SEQ step of a defined state leads to a defined state. -/
theorem exec_decodeSeq_defined {s t : State} (hs : Defined s) (h : exec (decodeSeq s.blk.state) s = .next t) :
    Defined t := by
  rcases definedCode_cases _ hs with hc | hc | hc | hc | hc | hc | hc | hc | hc | hc | hc | hc | hc | hc | hc | hc |
    hc | hc | hc <;> rw [hc] at h
  · cases h
    exact hs
  · exact execSOpen_defined h
  · exact execSGetcfg_defined h
  · exact execSSetcfg_defined h
  · exact hs.txTransfer (.goto _ codeSettle (by decide)) (show execSPulse s = .next t from h)
  · exact .of_ite (.goto _ codeHshake (by decide)) hs (show execSSettle s = .next t from h)
  · exact hs.txTransfer (.goto _ codeProbe (by decide)) (show execSHshake s = .next t from h)
  · exact execSProbe_defined hs h
  · exact hs.readExpected (fun _ => .goto _ codeAckK (by decide)) (show execSAckO s = .next t from h)
  · exact hs.readExpected (fun _ => .goto _ codeDrain (by decide)) (show execSAckK s = .next t from h)
  · exact execSDrain_defined hs h
  · exact .of_ite (.goto _ codeRestore (by decide)) (.goto _ codeBackoff (by decide)) (show execSFailchk s = .next t from h)
  · exact .of_ite (.beginAttempt s) hs (show execSBackoff s = .next t from h)
  · exact hs.txTransfer (.goto _ codeInfoAck (by decide)) (show execSInfoTx s = .next t from h)
  · exact hs.rxTransfer (fun _ _ _ => putAck_state) (.ackDone s) (show execSInfoAck s = .next t from h)
  · exact hs.rxTransfer (fun _ _ _ => putLen_state) (.lenDone s) (show execSInfoLen s = .next t from h)
  · exact hs.rxTransfer (fun _ _ _ => putPay_state) (.goto _ codeRestore (by decide)) (show execSInfoPay s = .next t from h)
  · cases h
    exact .restoreAndClose s
  · cases h
    exact hs

/-- A reserved code names a RESERVED_STATE row. -/
theorem decodeSeq_of_reserved : ∀ c : StateCode, 0x13 ≤ c.toNat →
    decodeSeq c = .reservedState13 ∨ (∃ lo, decodeSeq c = .reservedState14 lo) ∨ ∃ lo, decodeSeq c = .reservedState18 lo := by
  decide

/-! ## Every event -/

theorem State.runEncoded_host_defined {s t : State} {width : Nat} {w : TxnWord} (hs : Defined s)
    (h : s.runEncoded (.host width w) = .next t) : Defined t := by
  rcases State.runEncoded_host_next h with rfl | ⟨_, rfl⟩ | ⟨_, rfl⟩ | rfl | rfl | rfl
  · exact hs
  · exact hs
  · exact hs
  · exact hs.hostCancel
  · exact hs.hostStart
  · exact hs.hostStart.hostCancel

theorem State.runEncoded_wireOut_defined {s t : State} {bs : List Byte} (hs : Defined s)
    (h : s.runEncoded (.wireOut bs) = .next t) : Defined t := by
  rcases s.runEncoded_wireOut_cases bs with heq | heq | heq | heq <;> rw [heq] at h
  · exact hs.sentFrame h
  · exact hs.sentFrame h
  · exact hs.sentFrame h
  · cases h

theorem State.perform_defined {s t : State} {e : Event} (hs : Defined s) (h : s.perform e = .next t) : Defined t := by
  unfold State.perform at h
  split at h
  · rwa [State.duringReset_next h]
  cases e with
  | seq => exact exec_decodeSeq_defined hs h
  | clk => exact exec_decodeSeq_defined (s := s.timerTick) hs h
  | host width w => exact State.runEncoded_host_defined hs h
  | pin level =>
    cases (s.runEncoded_pin level).symm.trans h
    split
    · exact hs.hostCancel
    · exact hs
  | wireOut bs => exact State.runEncoded_wireOut_defined hs h
  | syncIn bs =>
    cases (s.runEncoded_syncIn bs).symm.trans h
    exact hs
  | infoIn bs =>
    cases (s.runEncoded_infoIn bs).symm.trans h
    exact hs
  | line | tick | expire =>
    cases h
    exact hs
  | rst level =>
    cases h
    cases level with
    | true => exact show codeIdle.toNat ≤ 0x12 by decide
    | false => exact hs

/-- Settles O11: a reserved code fetches a refused row, and every event keeps STATE defined. -/
theorem reservedCodesNeverWritten : Obligations.ReservedCodesNeverWritten := by
  refine ⟨show codeIdle.toNat ≤ 0x12 by decide, fun s hrst hcode => ?_, fun s t e hs h => State.perform_defined hs h⟩
  rw [State.perform_seq hrst]
  rcases decodeSeq_of_reserved _ hcode with h | ⟨lo, h⟩ | ⟨lo, h⟩ <;> rw [h] <;> rfl

end Sys2Proof.Machine
end

section
/-! PROOF of the tier 1 statements about the encodings and about the arithmetic they need (30_encoding R82 to R89, R98). -/

namespace Sys2Proof.Machine

/-- Settles O4: each word is closed, and the decoder evaluates it. -/
theorem decodesSpecWords : Obligations.DecodesSpecWords :=
  ⟨rfl, rfl, rfl, rfl, rfl, rfl, rfl, rfl, rfl, rfl⟩

/-- Settles O5. -/
theorem lengthIsLittleEndian : Obligations.LengthIsLittleEndian :=
  ⟨fun b0 b1 => ⟨len16_toNat b0 b1, rfl⟩, len16_toNat 0x01#8 0x80#8, rfl, rfl, rfl, rfl⟩

/-- The pulse count is the rate over 2000, rounded down (30_encoding R88). -/
theorem pulseCount_eq_div (b : Nat) : pulseCount b = b / 2000 := by
  rw [pulseCount]
  omega

/-- Settles O6: 2147483, the count of the largest 32-bit rate, is below 2 to the 22. -/
theorem pulseCountIsExact : Obligations.PulseCountIsExact := by
  refine ⟨fun b => ⟨rfl, pulseCount_eq_div b⟩, fun b => ?_, rfl, rfl, rfl, rfl⟩
  have hb := b.isLt
  rw [pulseCount_eq_div]
  omega

/-- Settles O7. -/
theorem ackPairValidity : Obligations.AckPairValidity := ⟨fun _ _ => ackValid_iff, rfl, rfl, rfl⟩

/-- Settles O43: both rows append their frame's bytes, and the frames begin with 4F 4B. -/
theorem peerFramesArrive : Obligations.PeerFramesArrive := fun _ _ _ _ _ _ => ⟨rfl, rfl⟩

end Sys2Proof.Machine
end

section
/-! PROOF of FramesGoOut. Sending a frame repeats the transmit step: where the frame is out, has no byte, or LINE does not
take it, the first step decides; where LINE takes bytes, the steps append the rest of the frame (41_byte_channel R133). -/

namespace Sys2Proof.Machine

/-! ## Sending a frame, by LINE's answer -/

section
variable {n : Nat} {frame : Nat → Option Byte} {s : State} {b : Byte}

theorem sendFrame_of_out (fuel : Nat) (hn : s.blk.idx.toNat = n) : sendFrame frame n fuel s = .next s := by
  cases fuel with
  | zero => rfl
  | succ fuel => rw [sendFrame, if_pos hn]

theorem sendFrame_beyond (fuel : Nat) (hn : s.blk.idx.toNat ≠ n) (hframe : frame s.blk.idx.toNat = none) :
    sendFrame frame n (fuel + 1) s = .fault .transferIndex := by
  simp [sendFrame, txTransfer, hn, hframe]

theorem sendFrame_stall (fuel : Nat) (hn : s.blk.idx.toNat ≠ n) (hframe : frame s.blk.idx.toNat = some b)
    (hok : s.line.txState = .ok) (hready : s.line.txReady = false) : sendFrame frame n (fuel + 1) s = .next s := by
  simp [sendFrame, txTransfer, hn, hframe, Line.txByte, hok, hready]

/-- An error or a close at the first byte still to send faults with the number of bytes sent (41_byte_channel R133). -/
theorem sendFrame_fault (fuel : Nat) (hn : s.blk.idx.toNat ≠ n) (hframe : frame s.blk.idx.toNat = some b) {c : Cause}
    (hc : s.line.txState = .error ∧ c = .txIo ∨ s.line.txState = .closed ∧ c = .txClosed) :
    sendFrame frame n (fuel + 1) s = .next (s.raiseFault c (s.blk.idx.extractLsb' 0 16)) := by
  have hdata : s.blk.idx.setWidth 16 = s.blk.idx.extractLsb' 0 16 := BitVec.setWidth_eq_extractLsb' (by decide)
  rcases hc with ⟨herr, rfl⟩ | ⟨hclosed, rfl⟩
  · simp [sendFrame, txTransfer, hn, hframe, Line.txByte, herr, hdata, State.setLine, State.raiseFault_blk]
  · simp [sendFrame, txTransfer, hn, hframe, Line.txByte, hclosed, hdata, State.setLine, State.raiseFault_blk]

/-- The machine after LINE took the byte at IDX. -/
def State.sent (s : State) (b : Byte) : State :=
  (s.setLine { s.line with txlog := s.line.txlog ++ [b] }).setIdx (s.blk.idx + 1#32)

theorem sendFrame_accepted (fuel : Nat) (hn : s.blk.idx.toNat ≠ n) (hframe : frame s.blk.idx.toNat = some b)
    (hok : s.line.txState = .ok) (hready : s.line.txReady = true) :
    sendFrame frame n (fuel + 1) s = sendFrame frame n fuel (s.sent b) := by
  have hmoved : s.blk.idx + 1#32 ≠ s.blk.idx := by simp
  simp [sendFrame, txTransfer, hn, hframe, Line.txByte, hok, hready, State.sent, hmoved]

end

/-- The machine after the rest of the frame `bs` is out. -/
def State.sentRest (s : State) (bs : List Byte) : State := { s with
  line := { s.line with txlog := s.line.txlog ++ bs.drop s.blk.idx.toNat }
  blk := { s.blk with idx := BitVec.ofNat 32 bs.length } }

/-- A frame that is out has no rest. -/
theorem State.sentRest_of_out {s : State} {bs : List Byte} (h : s.blk.idx.toNat = bs.length) : s.sentRest bs = s := by
  have hdrop : bs.drop s.blk.idx.toNat = [] := List.drop_of_length_le h.ge
  have hidx : BitVec.ofNat 32 bs.length = s.blk.idx := by rw [← h, BitVec.ofNat_toNat, BitVec.setWidth_eq]
  rw [State.sentRest, hdrop, hidx, List.append_nil]

/-- The rest of a frame is its next byte and what follows. -/
theorem State.sent_sentRest {s : State} {bs : List Byte} (hlen : bs.length < 2 ^ 32) (h : s.blk.idx.toNat < bs.length) :
    (s.sent bs[s.blk.idx.toNat]).sentRest bs = s.sentRest bs := by
  have hidx : (s.blk.idx + 1#32).toNat = s.blk.idx.toNat + 1 := by bv_omega
  simp [State.sent, State.sentRest, State.setLine, State.setIdx, hidx, List.append_assoc]

/-- Where LINE takes bytes, the bytes from IDX on go out in order, and IDX ends behind the last. -/
theorem sendFrame_ready {bs : List Byte} (hlen : bs.length < 2 ^ 32) (fuel : Nat) {s : State}
    (hidx : s.blk.idx.toNat ≤ bs.length) (hfuel : bs.length ≤ s.blk.idx.toNat + fuel) (hok : s.line.txState = .ok)
    (hready : s.line.txReady = true) : sendFrame (bs[·]?) bs.length fuel s = .next (s.sentRest bs) := by
  induction fuel generalizing s with
  | zero =>
    rw [State.sentRest_of_out (Nat.le_antisymm hidx hfuel)]
    rfl
  | succ fuel ih =>
    rcases Nat.eq_or_lt_of_le hidx with hout | hlt
    · rw [sendFrame_of_out _ hout, State.sentRest_of_out hout]
    have hnext : (s.sent bs[s.blk.idx.toNat]).blk.idx.toNat = s.blk.idx.toNat + 1 := by
      rw [State.sent, State.setIdx_blk]
      bv_omega
    calc sendFrame (bs[·]?) bs.length (fuel + 1) s
      _ = sendFrame (bs[·]?) bs.length fuel (s.sent bs[s.blk.idx.toNat]) :=
        sendFrame_accepted fuel hlt.ne (List.getElem?_eq_getElem hlt) hok hready
      _ = .next ((s.sent bs[s.blk.idx.toNat]).sentRest bs) := ih (by omega) (by omega) hok hready
      _ = .next (s.sentRest bs) := by rw [State.sent_sentRest hlen hlt]

/-! ## The three frames -/

theorem pulseTrain_below {n i : Nat} (h : i < n) : pulseTrain n i = some 0x55#8 := if_pos h

theorem pulseTrain_beyond {n i : Nat} (h : n < i) : pulseTrain n i = none := if_neg (by omega)

theorem handshakeAt_below {i : Nat} (h : i < 12) : ∃ b, handshakeAt i = some b :=
  Option.ne_none_iff_exists'.1 (handshakeAt_some i h)

theorem handshakeAt_beyond {i : Nat} (h : 12 < i) : handshakeAt i = none := List.getElem?_eq_none h.le

theorem infoCmdAt_below {i : Nat} (h : i < 4) : ∃ b, infoCmdAt i = some b :=
  Option.ne_none_iff_exists'.1 (infoCmdAt_some i h)

theorem infoCmdAt_beyond {i : Nat} (h : 4 < i) : infoCmdAt i = none := List.getElem?_eq_none h.le

/-- Settles O44: in its state each row sends its frame, and in any other it holds. -/
theorem framesGoOut : Obligations.FramesGoOut := by
  intro s
  have hpulse (h : s.blk.state = 0x04#5) :
      exec .pulse s = sendFrame (pulseTrain s.blk.pulses.toNat) s.blk.pulses.toNat 1 s := if_pos h
  have hhand (h : s.blk.state = 0x06#5) : exec .handshake s = sendFrame handshakeAt 12 12 s := if_pos h
  have hinfo (h : s.blk.state = 0x0D#5) : exec .infoCmd s = sendFrame infoCmdAt 4 4 s := if_pos h
  refine ⟨fun h => if_neg h, fun h => if_neg h, fun h => if_neg h, fun h hi => ?_, fun h hi => ?_, fun h hi => ?_,
    fun h hi => ?_, fun h hi => ?_, fun h hi => ?_, fun hok hstall => ⟨fun h hi => ?_, fun h hi => ?_, fun h hi => ?_⟩,
    fun c hc => ⟨fun h hi => ?_, fun h hi => ?_, fun h hi => ?_⟩,
    fun hok hready => ⟨fun h hi => ?_, fun h hi => ?_, fun h hi => ?_⟩⟩
  · rw [hpulse h, sendFrame_of_out _ (by rw [hi])]
  · rw [hhand h, sendFrame_of_out _ (by rw [hi]; rfl)]
  · rw [hinfo h, sendFrame_of_out _ (by rw [hi]; rfl)]
  · rw [hpulse h, sendFrame_beyond _ hi.ne' (pulseTrain_beyond hi)]
  · rw [hhand h, sendFrame_beyond _ hi.ne' (handshakeAt_beyond hi)]
  · rw [hinfo h, sendFrame_beyond _ hi.ne' (infoCmdAt_beyond hi)]
  · rw [hpulse h, sendFrame_stall _ hi.ne (pulseTrain_below hi) hok hstall]
  · obtain ⟨b, hb⟩ := handshakeAt_below hi
    rw [hhand h, sendFrame_stall _ hi.ne hb hok hstall]
  · obtain ⟨b, hb⟩ := infoCmdAt_below hi
    rw [hinfo h, sendFrame_stall _ hi.ne hb hok hstall]
  · rw [hpulse h, sendFrame_fault _ hi.ne (pulseTrain_below hi) hc]
  · obtain ⟨b, hb⟩ := handshakeAt_below hi
    rw [hhand h, sendFrame_fault _ hi.ne hb hc]
  · obtain ⟨b, hb⟩ := infoCmdAt_below hi
    rw [hinfo h, sendFrame_fault _ hi.ne hb hc]
  · rw [hpulse h, sendFrame_accepted _ hi.ne (pulseTrain_below hi) hok hready]
    rfl
  · exact (hhand h).trans (sendFrame_ready (bs := handshakeFrame) (by decide) 12 hi.le (Nat.le_add_left ..) hok hready)
  · exact (hinfo h).trans (sendFrame_ready (bs := infoCmdFrame) (by decide) 4 hi.le (Nat.le_add_left ..) hok hready)

end Sys2Proof.Machine
end

section
/-! PROOF of RawConfiguration, OpenAndGetcfgSteps, SetcfgStep and RestoreStep. LINE answers each control request by what it
draws, and the four states of Line Transport act on that answer (40_line_transport R110 to R115). -/

namespace Sys2Proof.Machine

/-! ## LINE's answers -/

theorem Line.requestOpen_of {l : Line} {ok : Bool} (h : l.present = ok) :
    l.requestOpen = (ok, l.record (.openLine ok)) := by
  rw [Line.requestOpen, h]

theorem Line.requestCfgGet_ok {l : Line} (h : l.getOk = true) : l.requestCfgGet = (some l.cfg, l.record (.cfgGet true)) :=
  if_pos h

theorem Line.requestCfgGet_fail {l : Line} (h : l.getOk = false) : l.requestCfgGet = (none, l.record (.cfgGet false)) := by
  rw [Line.requestCfgGet, h]
  rfl

/-- LINE takes a configuration it supports when it draws OK (40_line_transport R115). -/
theorem Line.cfgSetOk_eq_true {p : Params} {l : Line} {c : LineCfg} (hsupports : lineSupports p c = true)
    (hdraw : l.setOk = true) : l.cfgSetOk p c = true := Bool.and_eq_true_iff.2 ⟨hsupports, hdraw⟩

theorem Line.cfgSetOk_eq_false {p : Params} {l : Line} {c : LineCfg} (h : lineSupports p c = false ∨ l.setOk = false) :
    l.cfgSetOk p c = false := Bool.and_eq_false_iff.2 h

theorem Line.requestCfgSet_ok {p : Params} {l : Line} {c : LineCfg} (h : l.cfgSetOk p c = true) :
    l.requestCfgSet p c = (true, { l with cfg := c }.record (.cfgSet c true)) := if_pos h

theorem Line.requestCfgSet_fail {p : Params} {l : Line} {c : LineCfg} (h : l.cfgSetOk p c = false) :
    l.requestCfgSet p c = (false, l.record (.cfgSet c false)) := by
  rw [Line.requestCfgSet, h]
  rfl

/-- A request and then the close leave both on record, in that order. -/
theorem Line.record_requestClose (l : Line) (r : LineReq) :
    (l.record r).requestClose = { l with reqlog := l.reqlog ++ [r, .close] } := by
  simp [Line.requestClose, Line.record]

/-! ## The obligations -/

/-- Settles O26. -/
theorem rawConfiguration : Obligations.RawConfiguration := fun _ _ => rfl

/-- Settles O27, by LINE's answer to each of the two requests. -/
theorem openAndGetcfgSteps : Obligations.OpenAndGetcfgSteps := by
  intro s
  refine ⟨fun hpresent => ?_, fun habsent => ?_, fun hok => ?_, fun hfail => ?_⟩
  · show execSOpen s = _
    rw [execSOpen, Line.requestOpen_of hpresent]
    rfl
  · show execSOpen s = _
    rw [execSOpen, Line.requestOpen_of habsent]
    rfl
  · show execSGetcfg s = _
    rw [execSGetcfg, Line.requestCfgGet_ok hok]
    rfl
  · show execSGetcfg s = _
    rw [execSGetcfg, Line.requestCfgGet_fail hfail]
    rfl

/-- Settles O28, by LINE's answer to the request for the raw configuration. -/
theorem setcfgStep : Obligations.SetcfgStep := by
  rintro s _ rfl
  refine ⟨fun hsupports hdraw => ?_, fun hrefused => ?_⟩
  · show execSSetcfg s = _
    rw [execSSetcfg, Line.requestCfgSet_ok (Line.cfgSetOk_eq_true hsupports hdraw)]
    rfl
  · show execSSetcfg s = _
    rw [execSSetcfg, Line.requestCfgSet_fail (Line.cfgSetOk_eq_false hrefused)]
    rfl

/-- Settles O29: S_RESTORE's registers follow LINE's answer and the outcome so far. -/
theorem restoreStep : Obligations.RestoreStep := by
  rintro s _ rfl
  refine ⟨fun hsupports hdraw => ?_, fun hrefused hfault => ?_, fun hrefused hnofault => ?_⟩
  · have hanswer := Line.requestCfgSet_ok (Line.cfgSetOk_eq_true hsupports hdraw)
    simp [exec, execSRestore, State.restoreAndClose, hanswer, Line.record_requestClose, codeDone]
  · have hanswer := Line.requestCfgSet_fail (Line.cfgSetOk_eq_false hrefused)
    simp [exec, execSRestore, State.restoreAndClose, hanswer, hfault, Line.record_requestClose, codeDone]
  · have hanswer := Line.requestCfgSet_fail (Line.cfgSetOk_eq_false hrefused)
    simp [exec, execSRestore, State.restoreAndClose, hanswer, hnofault, Line.record_requestClose, codeDone, codeRestore,
      faultInfoWord]

end Sys2Proof.Machine
end

section
/-! PROOF of RestoreIsOwedUntilMade. Only START, S_GETCFG and S_RESTORE write CFG_SAVED or the debt. By the invariant a state
that owes a restore is busy, so START is ignored there, and is past S_GETCFG, so only S_RESTORE's own step is left. -/

namespace Sys2Proof.Machine

/-! ## The debt kept, and the debt paid -/

/-- From `s` to `t` the restore is owed as before, of the same configuration (10_state R38). -/
def DebtKept (s t : State) : Prop := t.blk.cfgSavedValid = s.blk.cfgSavedValid ∧ t.blk.cfgSaved = s.blk.cfgSaved

/-- From `s` to `t` the one restore is asked for and the line closed, which ends the session (40_line_transport R114). -/
def DebtPaid (s t : State) : Prop :=
  t.blk.state = codeDone ∧ t.blk.cfgSavedValid = false ∧
    ∃ ok, t.line.reqlog = s.line.reqlog ++ [.cfgSet s.blk.cfgSaved ok, .close]

theorem DebtKept.refl (s : State) : DebtKept s s := ⟨rfl, rfl⟩

/-- A transfer and a fault entry leave the debt as it is. -/
theorem Progress.debtKept {s t : State} (h : Progress s t) : DebtKept s t := by
  obtain ⟨_, _, _, _, _, _, _, _, _, rfl⟩ := h
  exact ⟨rfl, rfl⟩

theorem State.hostCancel_debtKept (s : State) : DebtKept s s.hostCancel := by
  obtain ⟨flag, heq⟩ := execCancel_writes s
  rw [heq]
  exact ⟨rfl, rfl⟩

theorem State.restoreAndClose_debtPaid (s : State) : DebtPaid s s.restoreAndClose := by
  rcases s.restoreAndClose_cases with ⟨-, heq⟩ | ⟨-, -, heq⟩ | ⟨-, -, heq⟩ <;> rw [heq, Line.record_requestClose] <;>
    exact ⟨rfl, rfl, _, rfl⟩

/-! ## SEQ steps -/

theorem decodeSeq_hostRow? : ∀ c : StateCode, (decodeSeq c).hostRow? = none := by decide

theorem decodeSeq_eq_sGetcfg : ∀ c : StateCode, decodeSeq c = .sGetcfg → c = codeGetcfg := by decide

theorem decodeSeq_eq_sRestore : ∀ c : StateCode, decodeSeq c = .sRestore → c = codeRestore := by decide

/-- Past S_GETCFG, S_RESTORE's step pays the debt and every other SEQ step keeps it. -/
theorem exec_decodeSeq_debt {c : StateCode} {s t : State} (hget : c ≠ codeGetcfg) (h : exec (decodeSeq c) s = .next t) :
    c = codeRestore ∧ DebtPaid s t ∨ c ≠ codeRestore ∧ DebtKept s t := by
  by_cases hc : c = codeRestore
  · subst hc
    cases h
    exact .inl ⟨rfl, s.restoreAndClose_debtPaid⟩
  · obtain ⟨-, -, -, -, -, -, -, -, -, -, -, hsaved, hvalid, -⟩ := registersHaveTheirWriters _ s t h
    refine .inr ⟨hc, by_contra fun hne => ?_, by_contra fun hne => hget (decodeSeq_eq_sGetcfg c (hsaved hne))⟩
    rcases hvalid hne with ⟨d, hi⟩ | hi | hi
    · exact absurd (decodeSeq_hostRow? c) (by rw [hi]; nofun)
    · exact hget (decodeSeq_eq_sGetcfg c hi)
    · exact hc (decodeSeq_eq_sRestore c hi)

/-! ## The other events -/

/-- START is ignored while busy, and no other HOST access writes the debt (44_host_interface R204). -/
theorem State.runEncoded_host_debtKept {s t : State} {width : Nat} {w : TxnWord} (hbusy : s.blk.busy = true)
    (h : s.runEncoded (.host width w) = .next t) : DebtKept s t := by
  rcases State.runEncoded_host_next h with rfl | ⟨_, rfl⟩ | ⟨_, rfl⟩ | rfl | rfl | rfl
  · exact .refl _
  · exact ⟨rfl, rfl⟩
  · exact ⟨rfl, rfl⟩
  · exact s.hostCancel_debtKept
  · rw [State.hostStart_of_busy hbusy]
    exact .refl s
  · rw [State.hostStart_of_busy hbusy]
    exact s.hostCancel_debtKept

theorem State.runEncoded_wireOut_debtKept {s t : State} {bs : List Byte} (h : s.runEncoded (.wireOut bs) = .next t) :
    DebtKept s t := by
  rcases s.runEncoded_wireOut_cases bs with heq | heq | heq | heq <;> rw [heq] at h
  · exact (sentFrame_progress h).debtKept
  · exact (sentFrame_progress h).debtKept
  · exact (sentFrame_progress h).debtKept
  · cases h

/-- Outside reset an event of a busy block that is neither a SEQ step nor the pin's keeps the debt. -/
theorem State.perform_debtKept {s t : State} {e : Event} (hrst : s.rst = false) (hbusy : s.blk.busy = true)
    (hseq : ¬ (e = .seq ∨ e = .clk)) (hpin : ∀ level, e ≠ .rst level) (h : s.perform e = .next t) : DebtKept s t := by
  simp only [State.perform, hrst, Bool.false_and, Bool.false_eq_true, if_false] at h
  cases e with
  | seq => exact absurd (.inl rfl) hseq
  | clk => exact absurd (.inr rfl) hseq
  | host width w => exact State.runEncoded_host_debtKept hbusy h
  | pin level =>
    cases (s.runEncoded_pin level).symm.trans h
    split
    · exact s.hostCancel_debtKept
    · exact .refl s
  | wireOut bs => exact State.runEncoded_wireOut_debtKept h
  | syncIn bs =>
    cases (s.runEncoded_syncIn bs).symm.trans h
    exact ⟨rfl, rfl⟩
  | infoIn bs =>
    cases (s.runEncoded_infoIn bs).symm.trans h
    exact ⟨rfl, rfl⟩
  | line | tick | expire =>
    cases h
    exact ⟨rfl, rfl⟩
  | rst level => exact absurd rfl (hpin level)

/-! ## Where a restore is owed -/

/-- The invariant's owing states are those from S_SETCFG to S_RESTORE, which are busy and past S_GETCFG. -/
theorem sessionInv.of_owed {b : Block} (h : sessionInv b) (howed : b.cfgSavedValid = true) :
    b.busy = true ∧ b.state ≠ codeGetcfg := by
  obtain ⟨-, -, hvalid, -⟩ := h
  obtain ⟨hlo, hhi⟩ := hvalid.1 howed
  refine ⟨?_, fun hc => ?_⟩
  · simp only [Block.busy, Bool.and_eq_true, bne_iff_ne]
    exact ⟨fun hc => absurd hlo (by rw [hc]; decide), fun hc => absurd hhi (by rw [hc]; decide)⟩
  · exact absurd hlo (by rw [hc]; decide)

/-- During reset nothing is owed (70_reset R270). -/
theorem resetInv.rst_of_owed {s : State} (h : resetInv s) (howed : s.blk.cfgSavedValid = true) : s.rst = false := by
  cases hrst : s.rst with
  | false => rfl
  | true =>
    rw [h hrst] at howed
    cases howed

/-- Settles O60: a SEQ step keeps the debt or pays it in S_RESTORE, and every other event keeps it. -/
theorem restoreIsOwedUntilMade : Obligations.RestoreIsOwedUntilMade := by
  intro s t e hinv howed hpin h
  obtain ⟨⟨⟨hsession, -⟩, -⟩, hreset⟩ := (machineInv_iff s).1 hinv
  obtain ⟨hbusy, hget⟩ := hsession.of_owed howed
  have hrst := hreset.rst_of_owed howed
  by_cases hseq : e = .seq ∨ e = .clk
  · have hstep : s.blk.state = codeRestore ∧ DebtPaid s t ∨ s.blk.state ≠ codeRestore ∧ DebtKept s t := by
      simp only [State.perform, hrst, Bool.false_and, Bool.false_eq_true, if_false] at h
      rcases hseq with rfl | rfl
      · exact exec_decodeSeq_debt hget h
      · exact exec_decodeSeq_debt (s := s.timerTick) hget h
    rcases hstep with ⟨hc, hdone, hvalid, hasked⟩ | ⟨hc, hvalid, hsaved⟩
    · exact .inr ⟨hseq, hc, hdone, hvalid, hasked⟩
    · exact .inl ⟨hvalid.trans howed, hsaved, fun hrestore => hc hrestore.2⟩
  · obtain ⟨hvalid, hsaved⟩ := State.perform_debtKept hrst hbusy hseq hpin h
    exact .inl ⟨hvalid.trans howed, hsaved, fun hrestore => hseq hrestore.1⟩

end Sys2Proof.Machine
end

section
/-! PROOF of RxByteAnswers and RxCountIsHeadRun. RxByte answers by the head of rxq; RxCount counts the run of bytes there,
and every queue is such a run followed by something that is no byte (41_byte_channel R131, R132). -/

namespace Sys2Proof.Machine

/-! ## RxByte, by the head of rxq -/

section
variable {l : Line} {rest : List RxEntry}

theorem Line.rxByte_of_nil (h : l.rxq = []) : l.rxByte = (.stall, l) := by simp [Line.rxByte, h]

theorem Line.rxByte_of_byte {b : Byte} (h : l.rxq = .byte b :: rest) : l.rxByte = (.byte b, { l with rxq := rest }) := by
  simp [Line.rxByte, h]

theorem Line.rxByte_of_error (h : l.rxq = .error :: rest) : l.rxByte = (.error, { l with rxq := rest }) := by
  simp [Line.rxByte, h]

theorem Line.rxByte_of_closed (h : l.rxq = .closed :: rest) : l.rxByte = (.closed, { l with rxq := rest }) := by
  simp [Line.rxByte, h]

end

/-- RxByte stalls on no queue but the empty one. -/
theorem Line.rxq_eq_nil_of_stall {l : Line} (h : l.rxByte.1 = .stall) : l.rxq = [] := by
  rcases l.rxByte_cases with ⟨hnil, -⟩ | ⟨b, rest, -, hb⟩ | ⟨rest, -, he⟩ | ⟨rest, -, hc⟩
  · exact hnil
  · rw [hb] at h; nomatch h
  · rw [he] at h; nomatch h
  · rw [hc] at h; nomatch h

/-- Settles O30: each answer is read off the head entry. -/
theorem rxByteAnswers : Obligations.RxByteAnswers := fun _ =>
  ⟨Line.rxByte_of_nil, fun _ _ => Line.rxByte_of_byte, fun _ => Line.rxByte_of_error, fun _ => Line.rxByte_of_closed,
    mt Line.rxq_eq_nil_of_stall⟩

/-! ## RxCount -/

/-- A queue whose head is no byte counts 0. -/
theorem countBytes_of_head_ne_byte {q : List RxEntry} (h : ∀ b q', q ≠ .byte b :: q') : countBytes q = 0 := by
  cases q with
  | nil => rfl
  | cons e rest =>
    cases e with
    | byte b => exact absurd rfl (h b rest)
    | error => rfl
    | closed => rfl

/-- Every queue is a run of bytes and then something whose head is no byte. -/
theorem exists_headRun (q : List RxEntry) :
    ∃ (bs : List Byte) (rest : List RxEntry), q = rxBytes bs ++ rest ∧ ∀ b q', rest ≠ .byte b :: q' := by
  induction q with
  | nil => exact ⟨[], [], rfl, nofun⟩
  | cons e tail ih =>
    cases e with
    | byte b =>
      obtain ⟨bs, rest, htail, hrest⟩ := ih
      exact ⟨b :: bs, rest, congrArg (.byte b :: ·) htail, hrest⟩
    | error => exact ⟨[], .error :: tail, rfl, nofun⟩
    | closed => exact ⟨[], .closed :: tail, rfl, nofun⟩

/-- Settles O31: the run's bytes all count, and nothing after them does. -/
theorem rxCountIsHeadRun : Obligations.RxCountIsHeadRun := by
  refine ⟨fun l bs q hq hhead => ?_, fun l hnil => ?_, fun l => exists_headRun l.rxq⟩
  · calc l.rxCount
      _ = countBytes (rxBytes bs ++ q) := congrArg countBytes hq
      _ = bs.length + countBytes q := countBytes_rxBytes bs q
      _ = bs.length := by rw [countBytes_of_head_ne_byte hhead, Nat.add_zero]
  · rw [Line.rxCount, hnil, countBytes_nil]

end Sys2Proof.Machine
end

section
/-! PROOF of ReceiveHoldsAndFaults and HoldsForEver. With bytes still to read, a receive step is decided by RxByte's answer
alone, whichever template it is; a transmit step that LINE stalls is a hold too. A hold is a SEQ step that answers the state
it was given, so it repeats for ever (41_byte_channel R133, R134, R139; 70_reset R280). -/

namespace Sys2Proof.Machine

/-! ## The templates, by LINE's answer -/

/-- A fault's DATA is the low half of IDX, however it is cut out. -/
theorem setWidth_idx (idx : Word) : idx.setWidth 16 = idx.extractLsb' 0 16 := BitVec.setWidth_eq_extractLsb' (by decide)

section
variable {n : Nat} {put : Nat → Byte → Block → Except Fault Block} {done : State → State} {s : State}
  {q : List RxEntry}

theorem rxTransfer_stall (hn : s.blk.idx.toNat ≠ n) (h : s.line.rxq = []) : rxTransfer n put done s = .next s := by
  rw [rxTransfer, if_neg hn, Line.rxByte_of_nil h]

theorem rxTransfer_error (hn : s.blk.idx.toNat ≠ n) (h : s.line.rxq = .error :: q) : rxTransfer n put done s =
    .next ((s.setLine { s.line with rxq := q }).raiseFault .rxIo (s.blk.idx.extractLsb' 0 16)) := by
  rw [rxTransfer, if_neg hn, Line.rxByte_of_error h, setWidth_idx]

theorem rxTransfer_closed (hn : s.blk.idx.toNat ≠ n) (h : s.line.rxq = .closed :: q) : rxTransfer n put done s =
    .next ((s.setLine { s.line with rxq := q }).raiseFault .rxClosed (s.blk.idx.extractLsb' 0 16)) := by
  rw [rxTransfer, if_neg hn, Line.rxByte_of_closed h, setWidth_idx]

end

theorem readExpected_stall {want : Byte} {m : BitVec 16} {hit : State → State} {s : State} (h : s.line.rxq = []) :
    readExpected want m hit s = .next s := by rw [readExpected, Line.rxByte_of_nil h]

section
variable {n : Nat} {frame : Nat → Option Byte} {s : State} {b : Byte}

/-- Before the frame is out, one byte of it is one transmit step, whatever the final action will be. -/
theorem sendFrame_one (done : State → State) (hn : s.blk.idx.toNat ≠ n) :
    sendFrame frame n 1 s = txTransfer n frame done s := by
  have hdone : txTransfer n frame id s = txTransfer n frame done s := by simp only [txTransfer, if_neg hn]
  rw [sendFrame, if_neg hn, hdone]
  cases txTransfer n frame done s with
  | next t => exact ite_self _
  | fault f => rfl
  | refused r => rfl

theorem txTransfer_stall (done : State → State) (hn : s.blk.idx.toNat ≠ n) (hframe : frame s.blk.idx.toNat = some b)
    (hok : s.line.txState = .ok) (hready : s.line.txReady = false) : txTransfer n frame done s = .next s := by
  rw [← sendFrame_one done hn, sendFrame_stall 0 hn hframe hok hready]

theorem txTransfer_accepted (done : State → State) (hn : s.blk.idx.toNat ≠ n) (hframe : frame s.blk.idx.toNat = some b)
    (hok : s.line.txState = .ok) (hready : s.line.txReady = true) : txTransfer n frame done s = .next (s.sent b) := by
  rw [← sendFrame_one done hn, sendFrame_accepted 0 hn hframe hok hready, sendFrame]

end

/-! ## The receiving states -/

/-- A receiving state's instruction, with bytes still to read. -/
def ReceivesMore (i : Instr) (s : State) : Prop :=
  i = .sDrain ∧ s.blk.idx.toNat < 3 ∨ i = .sInfoAck ∧ s.blk.idx.toNat < 2 ∨ i = .sInfoLen ∧ s.blk.idx.toNat < 2 ∨
    i = .sInfoPay ∧ s.blk.idx.toNat < s.blk.infoLen.toNat

/-- Each of them is the receive template before its end. -/
theorem ReceivesMore.exec_eq {i : Instr} {s : State} (h : ReceivesMore i s) :
    ∃ n put done, exec i s = rxTransfer n put done s ∧ s.blk.idx.toNat ≠ n := by
  rcases h with ⟨rfl, hidx⟩ | ⟨rfl, hidx⟩ | ⟨rfl, hidx⟩ | ⟨rfl, hidx⟩
  · exact ⟨trailerLen, fun _ _ b => .ok b,
      fun t => t.setBlk { t.blk with synced := true, idx := 0#32, state := codeInfoTx }, rfl, hidx.ne⟩
  · exact ⟨2, putAck, State.ackDone, rfl, hidx.ne⟩
  · exact ⟨2, putLen, State.lenDone, rfl, hidx.ne⟩
  · exact ⟨s.blk.infoLen.toNat, putPay s.params.payloadCap, fun t => (t.setResult .success).goto codeRestore, rfl,
      hidx.ne⟩

/-- Settles O36: before its end the receive template holds or faults by RxByte's answer. -/
theorem receiveHoldsAndFaults : Obligations.ReceiveHoldsAndFaults := by
  intro s q i hi
  obtain ⟨n, put, done, hexec, hn⟩ := ReceivesMore.exec_eq hi
  rw [hexec]
  exact ⟨rxTransfer_stall hn, rxTransfer_error hn, rxTransfer_closed hn⟩

/-! ## Holds -/

/-- A SEQ step that changes nothing changes nothing however often it is taken. -/
theorem seqRun_of_hold {s : State} (h : s.perform .seq = .next s) (k : Nat) : seqRun k s = .next s := by
  induction k with
  | zero => rfl
  | succ k ih => rw [seqRun, h]; exact ih

theorem ReceivesMore.hold {i : Instr} {s : State} (h : ReceivesMore i s) (hq : s.line.rxq = []) : exec i s = .next s :=
  (receiveHoldsAndFaults s [] i h).1 hq

section
variable {s : State}

theorem execSAckK_hold (hq : s.line.rxq = []) : execSAckK s = .next s := readExpected_stall hq

variable (hok : s.line.txState = .ok) (hstall : s.line.txReady = false)
include hok hstall

theorem execSPulse_hold (hidx : s.blk.idx.toNat < s.blk.pulses.toNat) : execSPulse s = .next s :=
  txTransfer_stall _ hidx.ne (pulseTrain_below hidx) hok hstall

theorem execSHshake_hold (hidx : s.blk.idx.toNat < 12) : execSHshake s = .next s := by
  obtain ⟨b, hb⟩ := handshakeAt_below hidx
  exact txTransfer_stall _ hidx.ne hb hok hstall

theorem execSInfoTx_hold (hidx : s.blk.idx.toNat < 4) : execSInfoTx s = .next s := by
  obtain ⟨b, hb⟩ := infoCmdAt_below hidx
  exact txTransfer_stall _ hidx.ne hb hok hstall

end

/-- Settles O49: every byte wait's SEQ step is a hold. -/
theorem holdsForEver : Obligations.HoldsForEver := by
  intro s k hrst hwait
  refine seqRun_of_hold ?_ k
  rw [State.perform_seq hrst]
  rcases hwait with ⟨hq, hc | ⟨hc, hidx⟩ | ⟨hc, hidx⟩ | ⟨hc, hidx⟩ | ⟨hc, hidx⟩⟩ |
    ⟨hok, hstall, ⟨hc, hidx⟩ | ⟨hc, hidx⟩ | ⟨hc, hidx⟩⟩ <;> rw [hc]
  · exact execSAckK_hold hq
  · exact ReceivesMore.hold (.inl ⟨rfl, hidx⟩) hq
  · exact ReceivesMore.hold (.inr (.inl ⟨rfl, hidx⟩)) hq
  · exact ReceivesMore.hold (.inr (.inr (.inl ⟨rfl, hidx⟩))) hq
  · exact ReceivesMore.hold (.inr (.inr (.inr ⟨rfl, hidx⟩))) hq
  · exact execSPulse_hold hok hstall hidx
  · exact execSHshake_hold hok hstall hidx
  · exact execSInfoTx_hold hok hstall hidx

end Sys2Proof.Machine
end

section
/-! PROOF of FrameIsItsSteps. Sending a frame and running SEQ in the state that sends it take the same transmit step, and
differ only after the last byte, where SEQ would go on to the final action (41_byte_channel R133; log 11). -/

namespace Sys2Proof.Machine

theorem seqRun_one (s : State) : seqRun 1 s = s.perform .seq := by
  rw [seqRun]
  cases s.perform .seq <;> rfl

section
variable {c : StateCode} {n : Nat} {frame : Nat → Option Byte} {done : State → State}
  (hseq : exec (decodeSeq c) = txTransfer n frame done) (hframe : ∀ i < n, ∃ b, frame i = some b)
include hseq

theorem perform_seq_of_sending {s : State} (hrst : s.rst = false) (hc : s.blk.state = c) :
    s.perform .seq = txTransfer n frame done s := by rw [State.perform_seq hrst, hc, hseq]

include hframe

/-- Where LINE takes bytes or stalls, the row sends what as many SEQ steps as there are bytes left send. -/
theorem sendFrame_eq_seqRun (hn : n < 2 ^ 32) (fuel : Nat) {s : State} (hrst : s.rst = false) (hc : s.blk.state = c)
    (hok : s.line.txState = .ok) (hidx : s.blk.idx.toNat ≤ n) (hfuel : n ≤ s.blk.idx.toNat + fuel) :
    sendFrame frame n fuel s = seqRun (n - s.blk.idx.toNat) s := by
  induction fuel generalizing s with
  | zero =>
    have hnone : n - s.blk.idx.toNat = 0 := Nat.sub_eq_zero_of_le hfuel
    rw [hnone]
    rfl
  | succ fuel ih =>
    rcases hidx.eq_or_lt with hout | hlt
    · rw [sendFrame_of_out _ hout, hout, Nat.sub_self]
      rfl
    obtain ⟨b, hb⟩ := hframe _ hlt
    have hstep := perform_seq_of_sending hseq hrst hc
    cases hready : s.line.txReady with
    | false =>
      rw [txTransfer_stall done hlt.ne hb hok hready] at hstep
      rw [sendFrame_stall fuel hlt.ne hb hok hready, seqRun_of_hold hstep]
    | true =>
      rw [txTransfer_accepted done hlt.ne hb hok hready] at hstep
      have hsent : (s.sent b).blk.idx.toNat = s.blk.idx.toNat + 1 := by
        rw [State.sent, State.setIdx_blk]
        bv_omega
      have hleft : n - s.blk.idx.toNat = n - (s.sent b).blk.idx.toNat + 1 := by omega
      calc sendFrame frame n (fuel + 1) s
        _ = sendFrame frame n fuel (s.sent b) := sendFrame_accepted fuel hlt.ne hb hok hready
        _ = seqRun (n - (s.sent b).blk.idx.toNat) (s.sent b) := ih hrst hc hok (by omega) (by omega)
        _ = seqRun (n - s.blk.idx.toNat) s := by rw [hleft, seqRun, hstep]

/-- Where LINE answers an error or a close, the row is the one SEQ step that faults. -/
theorem sendFrame_eq_seqRun_one (fuel : Nat) {s : State} (hrst : s.rst = false) (hc : s.blk.state = c)
    (hnot : s.line.txState ≠ .ok) (hidx : s.blk.idx.toNat < n) : sendFrame frame n (fuel + 1) s = seqRun 1 s := by
  obtain ⟨b, hb⟩ := hframe _ hidx
  have hcause : ∃ cause : Cause, s.line.txState = .error ∧ cause = .txIo ∨ s.line.txState = .closed ∧ cause = .txClosed := by
    cases htx : s.line.txState with
    | ok => exact absurd htx hnot
    | error => exact ⟨.txIo, .inl ⟨rfl, rfl⟩⟩
    | closed => exact ⟨.txClosed, .inr ⟨rfl, rfl⟩⟩
  obtain ⟨cause, hcause⟩ := hcause
  calc sendFrame frame n (fuel + 1) s
    _ = sendFrame frame n 1 s := (sendFrame_fault fuel hidx.ne hb hcause).trans (sendFrame_fault 0 hidx.ne hb hcause).symm
    _ = txTransfer n frame done s := sendFrame_one done hidx.ne
    _ = seqRun 1 s := by rw [seqRun_one, perform_seq_of_sending hseq hrst hc]

end

/-- Settles O45: each row sends its frame by the transmit step its state's SEQ step takes. -/
theorem frameIsItsSteps : Obligations.FrameIsItsSteps := by
  intro s hrst
  have hhand (h : s.blk.state = 0x06#5) : exec .handshake s = sendFrame handshakeAt 12 12 s := if_pos h
  have hinfo (h : s.blk.state = 0x0D#5) : exec .infoCmd s = sendFrame infoCmdAt 4 4 s := if_pos h
  refine ⟨fun hok => ⟨fun hc hidx => ?_, fun hc hidx => ?_⟩, fun hnot => ⟨fun hc hidx => ?_, fun hc hidx => ?_⟩,
    fun hc hidx => ?_⟩
  · rw [hhand hc]
    exact sendFrame_eq_seqRun rfl (fun _ => handshakeAt_below) (by decide) 12 hrst hc hok hidx (Nat.le_add_left ..)
  · rw [hinfo hc]
    exact sendFrame_eq_seqRun rfl (fun _ => infoCmdAt_below) (by decide) 4 hrst hc hok hidx (Nat.le_add_left ..)
  · rw [hhand hc]
    exact sendFrame_eq_seqRun_one rfl (fun _ => handshakeAt_below) 11 hrst hc hnot hidx
  · rw [hinfo hc]
    exact sendFrame_eq_seqRun_one rfl (fun _ => infoCmdAt_below) 3 hrst hc hnot hidx
  · calc exec .pulse s
      _ = sendFrame (pulseTrain s.blk.pulses.toNat) s.blk.pulses.toNat 1 s := if_pos hc
      _ = execSPulse s := sendFrame_one _ hidx.ne
      _ = seqRun 1 s := by rw [seqRun_one, State.perform_seq hrst, hc]; rfl

end Sys2Proof.Machine
end

section
/-! PROOF of PulseStep, FrameSendingSteps and PulseTrainRuns. Before its frame is out a sending state's step offers the byte
at IDX, and LINE's answer decides; at its end the template takes the state's final action (41_byte_channel R133). The pulse
train is as many accepted offers as there are pulses left, and then that action (42_sync_negotiator R152). -/

namespace Sys2Proof.Machine

/-! ## The transmit template, by IDX -/

/-- The machine after one byte was offered to LINE, by LINE's answer (41_byte_channel R130, R133, R140). -/
def State.offer (s : State) (b : Byte) : State :=
  match s.line.txState, s.line.txReady with
  | .ok, true => s.sent b
  | .ok, false => s
  | .error, _ => s.raiseFault .txIo (s.blk.idx.extractLsb' 0 16)
  | .closed, _ => s.raiseFault .txClosed (s.blk.idx.extractLsb' 0 16)

section
variable {n : Nat} {frame : Nat → Option Byte} {s : State}

theorem txTransfer_done (done : State → State) (hn : s.blk.idx.toNat = n) : txTransfer n frame done s = .next (done s) :=
  if_pos hn

theorem txTransfer_beyond (done : State → State) (hn : s.blk.idx.toNat ≠ n) (hframe : frame s.blk.idx.toNat = none) :
    txTransfer n frame done s = .fault .transferIndex := by
  rw [← sendFrame_one done hn, sendFrame_beyond 0 hn hframe]

theorem txTransfer_fault (done : State → State) {b : Byte} {c : Cause} (hn : s.blk.idx.toNat ≠ n)
    (hframe : frame s.blk.idx.toNat = some b)
    (hc : s.line.txState = .error ∧ c = .txIo ∨ s.line.txState = .closed ∧ c = .txClosed) :
    txTransfer n frame done s = .next (s.raiseFault c (s.blk.idx.extractLsb' 0 16)) := by
  rw [← sendFrame_one done hn, sendFrame_fault 0 hn hframe hc]

theorem txTransfer_offer (done : State → State) {b : Byte} (hn : s.blk.idx.toNat ≠ n)
    (hframe : frame s.blk.idx.toNat = some b) : txTransfer n frame done s = .next (s.offer b) := by
  cases htx : s.line.txState with
  | ok =>
    cases hready : s.line.txReady with
    | true => simp only [txTransfer_accepted done hn hframe htx hready, State.offer, htx, hready]
    | false => simp only [txTransfer_stall done hn hframe htx hready, State.offer, htx, hready]
  | error => simp only [txTransfer_fault done hn hframe (.inl ⟨htx, rfl⟩), State.offer, htx]
  | closed => simp only [txTransfer_fault done hn hframe (.inr ⟨htx, rfl⟩), State.offer, htx]

end

/-! ## Each sending state's step -/

/-- S_PULSE's final action (42_sync_negotiator R152). -/
def State.startSettle (s : State) : State := (s.timerStart settleMs).goto codeSettle

theorem execSPulse_done {s : State} (h : s.blk.idx = s.blk.pulses) : execSPulse s = .next s.startSettle :=
  txTransfer_done _ (by rw [h])

theorem execSPulse_offer {s : State} (h : s.blk.idx.toNat < s.blk.pulses.toNat) :
    execSPulse s = .next (s.offer 0x55#8) :=
  txTransfer_offer _ h.ne (pulseTrain_below h)

theorem execSPulse_beyond {s : State} (h : s.blk.pulses.toNat < s.blk.idx.toNat) :
    execSPulse s = .fault .transferIndex :=
  txTransfer_beyond _ h.ne' (pulseTrain_beyond h)

/-- Settles O32: the train is out, has a pulse left, or has no byte at IDX. -/
theorem pulseStep : Obligations.PulseStep := by
  refine fun s => ⟨fun hle => ?_, execSPulse_beyond⟩
  by_cases hout : s.blk.idx = s.blk.pulses
  · rw [if_pos hout]
    exact execSPulse_done hout
  · rw [if_neg hout]
    exact execSPulse_offer (hle.lt_of_ne fun h => hout (BitVec.eq_of_toNat_eq h))

section
variable {s : State} {b : Byte}

/-- A transmit step of a frame kept as a list offers the byte that the list has at IDX. -/
theorem txTransfer_offer_getElem {bs : List Byte} (done : State → State) (h : bs[s.blk.idx.toNat]? = some b) :
    txTransfer bs.length (bs[·]?) done s = .next (s.offer b) := by
  obtain ⟨hlt, -⟩ := List.getElem?_eq_some_iff.1 h
  exact txTransfer_offer done hlt.ne h

theorem execSHshake_offer (h : handshakeFrame[s.blk.idx.toNat]? = some b) : execSHshake s = .next (s.offer b) :=
  txTransfer_offer_getElem _ h

theorem execSHshake_done (h : s.blk.idx = 12#32) :
    execSHshake s = .next ((s.timerStart s.params.probeDelayMs).goto codeProbe) :=
  txTransfer_done _ (by rw [h]; rfl)

theorem execSHshake_beyond (h : 12 < s.blk.idx.toNat) : execSHshake s = .fault .transferIndex :=
  txTransfer_beyond _ h.ne' (handshakeAt_beyond h)

theorem execSInfoTx_offer (h : infoCmdFrame[s.blk.idx.toNat]? = some b) : execSInfoTx s = .next (s.offer b) :=
  txTransfer_offer_getElem _ h

theorem execSInfoTx_done (h : s.blk.idx = 4#32) : execSInfoTx s = .next ((s.setIdx 0#32).goto codeInfoAck) :=
  txTransfer_done _ (by rw [h]; rfl)

theorem execSInfoTx_beyond (h : 4 < s.blk.idx.toNat) : execSInfoTx s = .fault .transferIndex :=
  txTransfer_beyond _ h.ne' (infoCmdAt_beyond h)

end

/-- Settles O33: in both states a byte of the frame is offered, its end is the final action, and it has no byte beyond. -/
theorem frameSendingSteps : Obligations.FrameSendingSteps := fun _ _ =>
  ⟨execSHshake_offer, execSHshake_done, execSHshake_beyond, execSInfoTx_offer, execSInfoTx_done, execSInfoTx_beyond⟩

/-! ## The pulse train -/

/-- The first of k + 1 SEQ steps is the step of the state whose code STATE holds. -/
theorem seqRun_succ {s t : State} {c : StateCode} (hrst : s.rst = false) (hc : s.blk.state = c)
    (h : exec (decodeSeq c) s = .next t) (k : Nat) : seqRun (k + 1) s = seqRun k t := by
  rw [seqRun, State.perform_seq hrst, hc, h]

/-- The machine after the last k pulses and S_PULSE's final action. -/
def State.trainOut (s : State) (k : Nat) : State := { s with
  line := { s.line with txlog := s.line.txlog ++ List.replicate k 0x55#8 }
  blk := { s.blk with idx := s.blk.pulses, timer := msToTicks s.params.fClk settleMs, state := codeSettle } }

theorem State.trainOut_zero {s : State} (h : s.blk.idx = s.blk.pulses) : s.trainOut 0 = s.startSettle := by
  rw [State.trainOut, ← h, List.replicate_zero, List.append_nil]
  rfl

theorem State.trainOut_succ (s : State) (k : Nat) : (s.sent 0x55#8).trainOut k = s.trainOut (k + 1) := by
  simp [State.trainOut, State.sent, State.setLine, State.setIdx, List.replicate_succ]

/-- With k pulses left and LINE taking bytes, k + 1 SEQ steps send them and start the settle timer. -/
theorem seqRun_pulseTrain (k : Nat) {s : State} (hrst : s.rst = false) (hc : s.blk.state = codePulse)
    (hok : s.line.txState = .ok) (hready : s.line.txReady = true) (hleft : s.blk.idx.toNat + k = s.blk.pulses.toNat) :
    seqRun (k + 1) s = .next (s.trainOut k) := by
  induction k generalizing s with
  | zero =>
    have hout : s.blk.idx = s.blk.pulses := BitVec.eq_of_toNat_eq hleft
    rw [seqRun_succ hrst hc (execSPulse_done hout), State.trainOut_zero hout, seqRun]
  | succ k ih =>
    have hlt : s.blk.idx.toNat < s.blk.pulses.toNat := by omega
    have hsent : execSPulse s = .next (s.sent 0x55#8) :=
      txTransfer_accepted _ hlt.ne (pulseTrain_below hlt) hok hready
    have hidx : (s.sent 0x55#8).blk.idx.toNat = s.blk.idx.toNat + 1 := by
      rw [State.sent, State.setIdx_blk]
      bv_omega
    have hleft' : (s.sent 0x55#8).blk.idx.toNat + k = (s.sent 0x55#8).blk.pulses.toNat := by
      rw [hidx, Nat.add_right_comm]
      exact hleft
    rw [seqRun_succ hrst hc hsent, ← State.trainOut_succ]
    exact ih hrst hc hok hready hleft'

/-- Settles O46: with IDX 0 all the pulses are left. -/
theorem pulseTrainRuns : Obligations.PulseTrainRuns := by
  intro s hrst hc hidx hok hready
  exact seqRun_pulseTrain _ hrst hc hok hready (by rw [hidx]; exact Nat.zero_add _)

end Sys2Proof.Machine
end

section
/-! PROOF of FailchkStep, SyncResponseSteps and SyncInOneAttempt. S_ACK_O, S_ACK_K and S_DRAIN are decided by the head of rxq
alone, so a response that lies at the head of rxq is taken entry by entry (42_sync_negotiator R155 to R159). -/

namespace Sys2Proof.Machine

/-- Settles O41. -/
theorem failchkStep : Obligations.FailchkStep := by
  refine fun s => ⟨fun h => if_pos h, fun h => if_neg ?_⟩
  rw [h]
  nofun

/-! ## The templates, by the head of rxq -/

/-- The machine after RxByte took the head of rxq and left `q`. -/
def State.took (s : State) (q : List RxEntry) : State := s.setLine { s.line with rxq := q }

section
variable {want : Byte} {m : BitVec 16} {hit : State → State} {s : State} {q : List RxEntry}

theorem readExpected_byte {b : Byte} (h : s.line.rxq = .byte b :: q) :
    readExpected want m hit s = .next (if b = want then hit (s.took q) else (s.took q).goto codeFailchk) := by
  rw [readExpected, Line.rxByte_of_byte h]
  exact (apply_ite Host.Outcome.next ..).symm

theorem readExpected_hit (h : s.line.rxq = .byte want :: q) : readExpected want m hit s = .next (hit (s.took q)) := by
  rw [readExpected_byte h, if_pos rfl]

theorem readExpected_error (h : s.line.rxq = .error :: q) :
    readExpected want m hit s = .next ((s.took q).raiseFault .rxIo m) := by
  rw [readExpected, Line.rxByte_of_error h]
  rfl

theorem readExpected_closed (h : s.line.rxq = .closed :: q) :
    readExpected want m hit s = .next ((s.took q).raiseFault .rxClosed m) := by
  rw [readExpected, Line.rxByte_of_closed h]
  rfl

end

/-! ## Each state's step -/

section
variable {s : State} {q : List RxEntry} {b : Byte}

theorem execSAckO_byte (h : s.line.rxq = .byte b :: q) :
    execSAckO s = .next ((s.took q).goto (if b = ackO then codeAckK else codeFailchk)) := by
  rw [apply_ite (s.took q).goto]
  exact readExpected_byte h

theorem execSAckK_byte (h : s.line.rxq = .byte b :: q) : execSAckK s = .next
    (((s.took q).setIdx (if b = ackK then 0#32 else s.blk.idx)).goto (if b = ackK then codeDrain else codeFailchk)) := by
  refine (readExpected_byte h).trans (congrArg _ ?_)
  split <;> rfl

/-- An empty queue holds, and an error or a close faults with no byte matched (42_sync_negotiator R156). -/
theorem execSAckO_hold (h : s.line.rxq = []) : execSAckO s = .next s := readExpected_stall h

theorem execSAckO_error (h : s.line.rxq = .error :: q) : execSAckO s = .next ((s.took q).raiseFault .rxIo 0#16) :=
  readExpected_error h

theorem execSAckO_closed (h : s.line.rxq = .closed :: q) : execSAckO s = .next ((s.took q).raiseFault .rxClosed 0#16) :=
  readExpected_closed h

theorem execSAckK_error (h : s.line.rxq = .error :: q) : execSAckK s = .next ((s.took q).raiseFault .rxIo 1#16) :=
  readExpected_error h

theorem execSAckK_closed (h : s.line.rxq = .closed :: q) : execSAckK s = .next ((s.took q).raiseFault .rxClosed 1#16) :=
  readExpected_closed h

/-- The machine after S_DRAIN took one byte, whatever its value (42_sync_negotiator R158). -/
def State.drained (s : State) (q : List RxEntry) : State := (s.took q).setIdx (s.blk.idx + 1#32)

theorem execSDrain_byte (hidx : s.blk.idx.toNat < 3) (h : s.line.rxq = .byte b :: q) :
    execSDrain s = .next (s.drained q) := by
  have hn : s.blk.idx.toNat ≠ trailerLen := hidx.ne
  rw [execSDrain, rxTransfer, if_neg hn, Line.rxByte_of_byte h]
  rfl

/-- The machine after S_DRAIN's final action, which declares success (42_sync_negotiator R158). -/
def State.synchronized (s : State) : State :=
  s.setBlk { s.blk with synced := true, idx := 0#32, state := codeInfoTx }

theorem execSDrain_done (hidx : s.blk.idx = 3#32) : execSDrain s = .next s.synchronized := by
  have hn : s.blk.idx.toNat = trailerLen := by rw [hidx]; rfl
  exact if_pos hn

end

/-- Settles O35, by the head of rxq. -/
theorem syncResponseSteps : Obligations.SyncResponseSteps := fun _ _ _ =>
  ⟨fun h => ⟨execSAckO_byte h, execSAckK_byte h⟩, fun h => ⟨execSAckO_hold h, execSAckK_hold h⟩,
    fun h => ⟨execSAckO_error h, execSAckK_error h⟩, fun h => ⟨execSAckO_closed h, execSAckK_closed h⟩,
    execSDrain_byte, execSDrain_done⟩

/-! ## A whole response -/

section
variable {s : State} {q : List RxEntry} (hrst : s.rst = false)
include hrst

/-- S_DRAIN takes the trailer in as many steps as it has bytes, and declares success in one more (42_sync_negotiator
R158). -/
theorem seqRun_drain (trailer : List Byte) (hc : s.blk.state = codeDrain) (hidx : s.blk.idx.toNat + trailer.length = 3)
    (h : s.line.rxq = rxBytes trailer ++ q) : seqRun (trailer.length + 1) s = .next (s.took q).synchronized := by
  induction trailer generalizing s with
  | nil =>
    have hout : s.blk.idx = 3#32 := BitVec.eq_of_toNat_eq hidx
    have htook : s.took q = s := by rw [← show s.line.rxq = q from h]; rfl
    rw [seqRun_succ hrst hc (execSDrain_done hout), htook]
    rfl
  | cons b rest ih =>
    rw [List.length_cons] at hidx
    have hhead : s.line.rxq = .byte b :: (rxBytes rest ++ q) := h
    have hnext : (s.drained (rxBytes rest ++ q)).blk.idx.toNat = s.blk.idx.toNat + 1 := by
      rw [State.drained, State.setIdx_blk]
      bv_omega
    rw [seqRun_succ hrst hc (execSDrain_byte (by omega) hhead)]
    exact ih hrst hc (by omega) rfl

/-- From S_ACK_K: the second byte of the pair, and then the trailer (42_sync_negotiator R157). -/
theorem seqRun_ackK {t0 t1 t2 : Byte} (hc : s.blk.state = codeAckK) (h : s.line.rxq = rxBytes [ackK, t0, t1, t2] ++ q) :
    seqRun 5 s = .next (s.took q).synchronized := by
  have hhit : execSAckK s = .next (((s.took (rxBytes [t0, t1, t2] ++ q)).setIdx 0#32).goto codeDrain) :=
    readExpected_hit h
  rw [seqRun_succ hrst hc hhit]
  exact seqRun_drain (s := ((s.took (rxBytes [t0, t1, t2] ++ q)).setIdx 0#32).goto codeDrain) hrst [t0, t1, t2] rfl rfl rfl

/-- From S_ACK_O: the whole response (42_sync_negotiator R156). -/
theorem seqRun_ackO {t0 t1 t2 : Byte} (hc : s.blk.state = codeAckO) (h : s.line.rxq = rxBytes (syncBytes t0 t1 t2) ++ q) :
    seqRun 6 s = .next (s.took q).synchronized := by
  have hhit : execSAckO s = .next ((s.took (rxBytes [ackK, t0, t1, t2] ++ q)).goto codeAckK) := readExpected_hit h
  rw [seqRun_succ hrst hc hhit]
  exact seqRun_ackK (s := (s.took (rxBytes [ackK, t0, t1, t2] ++ q)).goto codeAckK) hrst rfl rfl

end

/-- With the timer expired and a byte at the head of rxq, S_PROBE goes to S_ACK_O (42_sync_negotiator R155). -/
theorem execSProbe_answered {s : State} {b : Byte} {q : List RxEntry} (htimer : s.blk.timer = 0)
    (h : s.line.rxq = .byte b :: q) : execSProbe s = .next (s.goto codeAckO) := by
  have hcount : s.line.rxCount ≠ 0 := by
    rw [Line.rxCount, h]
    exact Nat.succ_ne_zero _
  rw [execSProbe_eq, if_pos htimer, if_neg hcount]

/-- Settles O47: S_PROBE's step leaves the response at the head of rxq, and S_ACK_O reads it. -/
theorem syncInOneAttempt : Obligations.SyncInOneAttempt := by
  intro s t0 t1 t2 q hrst hc htimer hq
  rw [seqRun_succ hrst hc (execSProbe_answered htimer hq)]
  exact seqRun_ackO (s := s.goto codeAckO) hrst rfl hq

end Sys2Proof.Machine
end

section
/-! PROOF of SettleTakesItsTicks. A clock cycle counts TIMER down and then takes the SEQ step, so a cycle of S_SETTLE is a
hold with one tick less while TIMER is above 1, and leaves for S_HSHAKE when it is 1 (60_exceptions R252; log 14). -/

namespace Sys2Proof.Machine

/-- The first of k + 1 steps, where it answers a next state. -/
theorem run_succ {M : Host.Core} {s t : M.State} (h : M.step s = .next t) (k : Nat) : M.run (k + 1) s = M.run k t := by
  rw [Host.Core.run, h]

/-- Writing what the schedule and TIMER already hold changes nothing. -/
theorem State.eq_of_inputs_timer {s : State} {es : List Event} {ticks : Nat} (hin : s.inputs = es)
    (htimer : s.blk.timer = ticks) : s = { s with inputs := es, blk := { s.blk with timer := ticks } } := by
  subst hin htimer
  rfl

section
variable {s : State} {rest : List Event} (hrst : s.rst = false) (hc : s.blk.state = codeSettle)
  (hin : s.inputs = .clk :: rest)
include hrst hc hin

/-- A clock cycle in S_SETTLE is its SEQ step with one tick less. -/
theorem step_clk_settle : step s = execSSettle (State.timerTick { s with inputs := rest }) := by
  rw [step_cons s .clk rest hin]
  simp only [State.perform, hrst, Bool.false_and, Bool.false_eq_true, if_false, State.runEncoded_seq, hc]
  rfl

theorem step_clk_settle_hold {n : Nat} (htimer : s.blk.timer = n + 2) :
    step s = .next { s with inputs := rest, blk := { s.blk with timer := n + 1 } } := by
  rw [step_clk_settle hrst hc hin, execSSettle_eq, State.timerTick, htimer]
  exact if_neg (Nat.succ_ne_zero n)

theorem step_clk_settle_leave (htimer : s.blk.timer = 1) :
    step s = .next { s with inputs := rest, blk := { s.blk with timer := 0, idx := 0#32, state := codeHshake } } := by
  rw [step_clk_settle hrst hc hin, execSSettle_eq, State.timerTick, htimer]
  rfl

end

/-- Settles O50, by induction on the ticks left. -/
theorem settleTakesItsTicks : Obligations.SettleTakesItsTicks := by
  intro s n rest hrst hc htimer hin
  induction n generalizing s with
  | zero =>
    exact ⟨congrArg Host.Outcome.next (State.eq_of_inputs_timer hin htimer),
      run_succ (M := Sys2Proof.core) (step_clk_settle_leave hrst hc hin htimer) 0⟩
  | succ n ih =>
    have hstep := step_clk_settle_hold hrst hc hin htimer
    obtain ⟨hwait, hleave⟩ := ih (s := { s with
      inputs := List.replicate (n + 1) .clk ++ rest, blk := { s.blk with timer := n + 1 } }) hrst hc rfl rfl
    exact ⟨(run_succ (M := Sys2Proof.core) hstep n).trans hwait,
      (run_succ (M := Sys2Proof.core) hstep (n + 1)).trans hleave⟩

end Sys2Proof.Machine
end

section
/-! PROOF of SynchronizedIsTerminal. Only START, which a busy block ignores, and S_DRAIN, which sets it, write SYNCED, so a
busy block keeps SYNCED 1. The invariant, which the event keeps, then puts STATE past Negotiating (42_sync_negotiator
R162). -/

namespace Sys2Proof.Machine

/-- S_DRAIN never clears SYNCED (42_sync_negotiator R158). -/
theorem execSDrain_synced {s t : State} (hsynced : s.blk.synced = true) (h : execSDrain s = .next t) :
    t.blk.synced = true := by
  have hkeep : ∀ {u : State}, Progress s u → u.blk.synced = true := by
    rintro _ ⟨_, _, _, _, _, _, _, _, _, rfl⟩
    exact hsynced
  rcases rxTransfer_progress h with rfl | hprogress | ⟨_, _, _, hput, hprogress⟩
  · rfl
  · exact hkeep hprogress
  · cases hput
    exact hkeep hprogress

/-- While busy no instruction clears SYNCED: START is ignored, and S_DRAIN sets it (44_host_interface R204). -/
theorem exec_synced {i : Instr} {s t : State} (hbusy : s.blk.busy = true) (hsynced : s.blk.synced = true)
    (h : exec i s = .next t) : t.blk.synced = true := by
  obtain ⟨-, -, -, -, -, hwriters, -⟩ := registersHaveTheirWriters i s t h
  by_cases hsame : t.blk.synced = s.blk.synced
  · exact hsame.trans hsynced
  rcases hwriters hsame with ⟨data, rfl⟩ | rfl
  · cases h
    rw [State.hostStart_of_busy hbusy]
    obtain ⟨flag, hcancel⟩ := execCancel_writes s
    split
    · rw [hcancel]
      exact hsynced
    · exact hsynced
  · exact execSDrain_synced hsynced h

theorem State.runEncoded_synced {s t : State} {x : Encoded} (hbusy : s.blk.busy = true) (hsynced : s.blk.synced = true)
    (h : s.runEncoded x = .next t) : t.blk.synced = true := by
  unfold State.runEncoded at h
  split at h
  · exact exec_synced hbusy hsynced h
  · unfold State.onReject at h
    split at h <;> (try split at h) <;> cases h <;> exact hsynced

/-- Outside reset a busy block keeps SYNCED 1 under every event but the reset pin's. -/
theorem State.perform_synced {s t : State} {e : Event} (hrst : s.rst = false) (hbusy : s.blk.busy = true)
    (hsynced : s.blk.synced = true) (hpin : ∀ level, e ≠ .rst level) (h : s.perform e = .next t) :
    t.blk.synced = true := by
  simp only [State.perform, hrst, Bool.false_and, Bool.false_eq_true, if_false] at h
  cases e with
  | seq | host | pin | wireOut | syncIn | infoIn => exact State.runEncoded_synced hbusy hsynced h
  | clk => exact State.runEncoded_synced (s := s.timerTick) hbusy hsynced h
  | line | tick | expire =>
    cases h
    exact hsynced
  | rst level => exact absurd rfl (hpin level)

/-- The block is not busy during reset (70_reset R270). -/
theorem resetInv.rst_of_busy {s : State} (h : resetInv s) (hbusy : s.blk.busy = true) : s.rst = false := by
  cases hrst : s.rst with
  | false => rfl
  | true =>
    rw [h hrst] at hbusy
    cases hbusy

/-- With SYNCED 1 STATE is past Negotiating (30_encoding R99). -/
theorem sessionInv.past_negotiating {b : Block} (h : sessionInv b) (hsynced : b.synced = true) : 13 ≤ b.state.toNat := by
  obtain ⟨-, -, -, hnegotiating, -⟩ := h
  by_contra hlt
  exact absurd (hnegotiating (by omega)) (by rw [hsynced]; nofun)

theorem Block.negotiating_eq_false {b : Block} (h : 13 ≤ b.state.toNat) : b.negotiating = false :=
  decide_eq_false fun ⟨_, hle⟩ => absurd (h.trans hle) (by decide)

/-- Settles O59: SYNCED stays 1, and the invariant after the event says where STATE is. -/
theorem synchronizedIsTerminal : Obligations.SynchronizedIsTerminal := by
  intro s t e hinv hbusy hsynced hpin h
  obtain ⟨hrun, hreset⟩ := (machineInv_iff s).1 hinv
  have hrst := hreset.rst_of_busy hbusy
  have hsynced' := State.perform_synced hrst hbusy hsynced hpin h
  obtain ⟨⟨⟨hsession, -⟩, -⟩, -⟩ := State.perform_keeps_of_running hrun hrst h
  have hstate := hsession.past_negotiating hsynced'
  refine ⟨hsynced', Block.negotiating_eq_false hstate, fun hidle => ?_⟩
  rw [hidle] at hstate
  exact absurd hstate (by decide)

end Sys2Proof.Machine
end

section
/-! PROOF of InfoAckStep, InfoLenStep, InfoPayStep and InfoResponseDecoded. The three receiving states are one template:
with a byte at the head of rxq it puts that byte and counts it, and with all bytes read it takes the state's decision
(41_byte_channel R134). A whole response is then two pairs, each read and decided, and an induction on the payload
(43_command_framer R182 to R184). -/

namespace Sys2Proof.Machine

/-! ## The receive template, with a byte and at its end -/

section
variable {n : Nat} {put : Nat → Byte → Block → Except Fault Block} {done : State → State} {s : State}

theorem rxTransfer_byte {i : Word} {b : Byte} {q : List RxEntry} {blk : Block} (hidx : s.blk.idx = i) (hn : i.toNat ≠ n)
    (h : s.line.rxq = .byte b :: q) (hput : put i.toNat b s.blk = .ok blk) : rxTransfer n put done s =
      .next { s with line := { s.line with rxq := q }, blk := { blk with idx := i + 1#32 } } := by
  subst hidx
  rw [rxTransfer, if_neg hn, Line.rxByte_of_byte h]
  dsimp only
  rw [hput]
  rfl

theorem rxTransfer_done (hn : s.blk.idx.toNat = n) : rxTransfer n put done s = .next (done s) := if_pos hn

end

/-! ## What each byte puts -/

section
variable (b : Byte) (k : Block)

theorem putAck_zero : putAck 0 b k = .ok { k with ackb := k.ackb.extractLsb' 8 8 ++ b } := rfl

theorem putAck_one : putAck 1 b k = .ok { k with ackb := b ++ k.ackb.extractLsb' 0 8 } := rfl

theorem putLen_zero : putLen 0 b k = .ok { k with lenb := b } := rfl

theorem putLen_one : putLen 1 b k = .ok { k with infoLen := b ++ k.lenb } := rfl

theorem putPay_below {cap i : Nat} (h : i < cap) :
    putPay cap i b k = .ok { k with payload := k.payload.write i b, payCount := BitVec.ofNat 16 (i + 1) } := if_pos h

end

/-! ## S_INFO_ACK -/

/-- The one valid pair, as ACKB holds it (30_encoding R89). -/
theorem ackValid_halves_iff {w : BitVec 16} :
    ackValid (w.extractLsb' 0 8) (w.extractLsb' 8 8) = true ↔ w = 0x4B4F#16 := by
  rw [ackValid_iff]
  refine ⟨fun ⟨hlow, hhigh⟩ => ?_, fun h => ?_⟩
  · rw [← len16_bytes w, hlow, hhigh]
    rfl
  · subst h
    exact ⟨rfl, rfl⟩

section
variable {s : State} {b : Byte} {q : List RxEntry}

theorem execSInfoAck_first (hidx : s.blk.idx = 0#32) (h : s.line.rxq = .byte b :: q) : execSInfoAck s = .next { s with
    line := { s.line with rxq := q }, blk := { s.blk with idx := 1#32, ackb := s.blk.ackb.extractLsb' 8 8 ++ b } } :=
  rxTransfer_byte hidx (by decide) h (putAck_zero ..)

theorem execSInfoAck_second (hidx : s.blk.idx = 1#32) (h : s.line.rxq = .byte b :: q) : execSInfoAck s = .next { s with
    line := { s.line with rxq := q }, blk := { s.blk with idx := 2#32, ackb := b ++ s.blk.ackb.extractLsb' 0 8 } } :=
  rxTransfer_byte hidx (by decide) h (putAck_one ..)

theorem execSInfoAck_done (hidx : s.blk.idx = 2#32) : execSInfoAck s = .next s.ackDone :=
  rxTransfer_done (congrArg BitVec.toNat hidx)

theorem execSInfoAck_valid (hidx : s.blk.idx = 2#32) (h : s.blk.ackb = 0x4B4F#16) :
    execSInfoAck s = .next { s with blk := { s.blk with idx := 0#32, state := codeInfoLen } } := by
  rw [execSInfoAck_done hidx, State.ackDone, if_pos (ackValid_halves_iff.2 h)]
  rfl

theorem execSInfoAck_invalid (hidx : s.blk.idx = 2#32) (h : s.blk.ackb ≠ 0x4B4F#16) :
    execSInfoAck s = .next (s.raiseFault .infoNak s.blk.ackb) := by
  rw [execSInfoAck_done hidx, State.ackDone, if_neg (mt ackValid_halves_iff.1 h)]

end

/-- Settles O38. -/
theorem infoAckStep : Obligations.InfoAckStep := fun _ _ _ =>
  ⟨execSInfoAck_first, execSInfoAck_second, execSInfoAck_valid, execSInfoAck_invalid⟩

/-! ## S_INFO_LEN -/

section
variable {s : State} {b : Byte} {q : List RxEntry}

theorem execSInfoLen_first (hidx : s.blk.idx = 0#32) (h : s.line.rxq = .byte b :: q) : execSInfoLen s = .next { s with
    line := { s.line with rxq := q }, blk := { s.blk with idx := 1#32, lenb := b } } :=
  rxTransfer_byte hidx (by decide) h (putLen_zero ..)

theorem execSInfoLen_second (hidx : s.blk.idx = 1#32) (h : s.line.rxq = .byte b :: q) : execSInfoLen s = .next { s with
    line := { s.line with rxq := q }, blk := { s.blk with idx := 2#32, infoLen := b ++ s.blk.lenb } } :=
  rxTransfer_byte hidx (by decide) h (putLen_one ..)

variable (hidx : s.blk.idx = 2#32)
include hidx

theorem execSInfoLen_done : execSInfoLen s = .next s.lenDone := rxTransfer_done (congrArg BitVec.toNat hidx)

theorem execSInfoLen_tooLong (hcap : s.params.payloadCap < s.blk.infoLen.toNat) :
    execSInfoLen s = .next (s.raiseFault .alloc s.blk.infoLen) := by
  rw [execSInfoLen_done hidx, State.lenDone, if_pos hcap]

theorem execSInfoLen_empty (hlen : s.blk.infoLen = 0#16) :
    execSInfoLen s = .next { s with blk := { s.blk with result := .success, state := codeRestore } } := by
  have hcap : ¬ s.params.payloadCap < s.blk.infoLen.toNat := by
    rw [hlen]
    exact Nat.not_lt_zero _
  rw [execSInfoLen_done hidx, State.lenDone, if_neg hcap, if_pos hlen]
  rfl

theorem execSInfoLen_payload (hlen : s.blk.infoLen ≠ 0#16) (hcap : s.blk.infoLen.toNat ≤ s.params.payloadCap) :
    execSInfoLen s = .next { s with blk := { s.blk with idx := 0#32, state := codeInfoPay } } := by
  rw [execSInfoLen_done hidx, State.lenDone, if_neg hcap.not_gt, if_neg hlen]
  rfl

end

/-- Settles O39: the three decisions follow the length's three cases. -/
theorem infoLenStep : Obligations.InfoLenStep := fun _ _ _ =>
  ⟨execSInfoLen_first, execSInfoLen_second, execSInfoLen_tooLong, execSInfoLen_empty, execSInfoLen_payload⟩

/-! ## S_INFO_PAY -/

/-- The machine after S_INFO_PAY stored one byte (43_command_framer R184). -/
def State.stored (s : State) (b : Byte) (q : List RxEntry) : State := { s with
  line := { s.line with rxq := q }
  blk := { s.blk with
    idx := s.blk.idx + 1#32
    payload := s.blk.payload.write s.blk.idx.toNat b
    payCount := BitVec.ofNat 16 (s.blk.idx.toNat + 1) } }

section
variable {s : State} (b : Byte) (q : List RxEntry) (hidx : s.blk.idx.toNat < s.blk.infoLen.toNat)
include hidx

/-- Below the length neither IDX nor PAY_COUNT wraps. -/
theorem State.stored_idx : (s.stored b q).blk.idx.toNat = s.blk.idx.toNat + 1 := by
  rw [State.stored]
  bv_omega

theorem State.stored_payCount : (s.stored b q).blk.payCount.toNat = s.blk.idx.toNat + 1 :=
  Nat.mod_eq_of_lt (Nat.lt_of_le_of_lt hidx s.blk.infoLen.isLt)

end

section
variable {s : State} {b : Byte} {q : List RxEntry}

theorem execSInfoPay_byte (hcap : s.blk.infoLen.toNat ≤ s.params.payloadCap)
    (hidx : s.blk.idx.toNat < s.blk.infoLen.toNat) (h : s.line.rxq = .byte b :: q) :
    execSInfoPay s = .next (s.stored b q) :=
  rxTransfer_byte rfl hidx.ne h (putPay_below _ _ (hidx.trans_le hcap))

theorem execSInfoPay_done (hidx : s.blk.idx.toNat = s.blk.infoLen.toNat) :
    execSInfoPay s = .next { s with blk := { s.blk with result := .success, state := codeRestore } } :=
  rxTransfer_done hidx

end

/-- Settles O40: the buffer after the step is one write at IDX. -/
theorem infoPayStep : Obligations.InfoPayStep := fun _ _ _ hwf hcap =>
  ⟨fun hidx h => ⟨_, execSInfoPay_byte hcap hidx h, Memory.write_wf hwf _ _, Memory.read_write hwf _ _⟩,
    execSInfoPay_done⟩

/-! ## A run of bytes in the buffer -/

/-- The buffer after the bytes were written one by one from index `a` on. -/
def Memory.store (m : Memory) (a : Nat) : List Byte → Memory
  | [] => m
  | b :: bs => Memory.store (m.write a b) (a + 1) bs

theorem Memory.read_store_outside {m : Memory} (hm : m.wf = true) {a i : Nat} {bs : List Byte}
    (h : i < a ∨ a + bs.length ≤ i) : (m.store a bs).read i = m.read i := by
  induction bs generalizing m a with
  | nil => rfl
  | cons b bs ih =>
    rw [List.length_cons] at h
    rw [Memory.store, ih (Memory.write_wf hm a b) (by omega), Memory.read_write hm, if_neg (by omega)]

theorem Memory.read_store_inside {m : Memory} (hm : m.wf = true) {a j : Nat} {bs : List Byte} (h : j < bs.length) :
    (m.store a bs).read (a + j) = bs[j] := by
  induction bs generalizing m a j with
  | nil => nomatch h
  | cons b bs ih =>
    have hm' := Memory.write_wf hm a b
    cases j with
    | zero =>
      calc ((m.write a b).store (a + 1) bs).read a
        _ = (m.write a b).read a := Memory.read_store_outside hm' (.inl a.lt_add_one)
        _ = b := (Memory.read_write hm a b a).trans (if_pos rfl)
    | succ j =>
      have hadd : a + (j + 1) = a + 1 + j := by omega
      rw [Memory.store, hadd, ih hm' (Nat.lt_of_succ_lt_succ h)]
      rfl

/-! ## A whole response -/

/-- The machine after the pair 4F 4B and a length were read, before the length is decided (43_command_framer R182,
R183). -/
def State.lengthRead (s : State) (len : BitVec 16) (q : List RxEntry) : State := { s with
  line := { s.line with rxq := q }
  blk := { s.blk with
    idx := 2#32, ackb := 0x4B4F#16, lenb := len.extractLsb' 0 8, infoLen := len, state := codeInfoLen } }

/-- The machine after S_INFO_LEN's decision for a payload (43_command_framer R183). -/
def State.payloadStarted (s : State) : State :=
  { s with blk := { s.blk with idx := 0#32, state := codeInfoPay } }

/-- The machine after the bytes left of the payload, and the success that follows the last (43_command_framer R184). -/
def State.payloadRead (s : State) (bs : List Byte) (q : List RxEntry) : State := { s with
  line := { s.line with rxq := q }
  blk := { s.blk with
    idx := s.blk.infoLen.setWidth 32
    payload := s.blk.payload.store s.blk.idx.toNat bs
    payCount := s.blk.infoLen
    result := .success
    state := codeRestore } }

/-- A SEQ step and then the rest of a run. -/
theorem seqRun_eq_of_step {s t : State} {k : Nat} {c : StateCode} {r : Result} (hrst : s.rst = false)
    (hc : s.blk.state = c) (h : exec (decodeSeq c) s = .next t) (hrest : seqRun k t = r) : seqRun (k + 1) s = r :=
  (seqRun_succ hrst hc h k).trans hrest

section
variable {s : State} {q : List RxEntry} (hrst : s.rst = false)
include hrst

/-- S_INFO_ACK reads the valid pair in two steps and leaves for S_INFO_LEN in one more (43_command_framer R182). -/
theorem seqRun_infoAck (hc : s.blk.state = codeInfoAck) (hidx : s.blk.idx = 0#32)
    (h : s.line.rxq = rxBytes [ackO, ackK] ++ q) (k : Nat) : seqRun (k + 3) s = seqRun k { s with
      line := { s.line with rxq := q }
      blk := { s.blk with idx := 0#32, ackb := 0x4B4F#16, state := codeInfoLen } } := by
  have hpair : ackK ++ (s.blk.ackb.extractLsb' 8 8 ++ ackO).extractLsb' 0 8 = 0x4B4F#16 := by
    rw [show (s.blk.ackb.extractLsb' 8 8 ++ ackO).extractLsb' 0 8 = ackO from len16_low _ _]
    rfl
  refine seqRun_eq_of_step hrst hc (execSInfoAck_first hidx h) ?_
  refine seqRun_eq_of_step hrst hc (execSInfoAck_second rfl rfl) ?_
  refine seqRun_eq_of_step hrst hc (execSInfoAck_valid rfl hpair) ?_
  rw [hpair]
  rfl

/-- From S_INFO_ACK, five steps read the pair and the length (43_command_framer R182, R183). -/
theorem seqRun_lengthRead {len : BitVec 16} (hc : s.blk.state = codeInfoAck) (hidx : s.blk.idx = 0#32)
    (h : s.line.rxq = rxBytes [ackO, ackK, len.extractLsb' 0 8, len.extractLsb' 8 8] ++ q) (k : Nat) :
    seqRun (k + 5) s = seqRun k (s.lengthRead len q) := by
  have hlen : len.extractLsb' 8 8 ++ len.extractLsb' 0 8 = len := len16_bytes len
  refine (seqRun_infoAck hrst hc hidx h (k + 2)).trans ?_
  refine seqRun_eq_of_step hrst rfl (execSInfoLen_first rfl rfl) ?_
  refine seqRun_eq_of_step hrst rfl (execSInfoLen_second rfl rfl) ?_
  rw [hlen]
  rfl

/-- S_INFO_PAY reads the bytes left in as many steps, and succeeds in one more (43_command_framer R184). -/
theorem seqRun_infoPay (bs : List Byte) (hc : s.blk.state = codeInfoPay)
    (hcap : s.blk.infoLen.toNat ≤ s.params.payloadCap) (hcount : s.blk.payCount.toNat = s.blk.idx.toNat)
    (hleft : s.blk.idx.toNat + bs.length = s.blk.infoLen.toNat) (h : s.line.rxq = rxBytes bs ++ q) :
    seqRun (bs.length + 1) s = .next (s.payloadRead bs q) := by
  induction bs generalizing s with
  | nil =>
    have hidx : s.blk.idx.toNat = s.blk.infoLen.toNat := hleft
    have hq : s.line.rxq = q := h
    have hout : s.blk.infoLen.setWidth 32 = s.blk.idx := by bv_omega
    have hall : s.blk.payCount = s.blk.infoLen := BitVec.eq_of_toNat_eq (hcount.trans hidx)
    rw [seqRun_succ hrst hc (execSInfoPay_done hidx), State.payloadRead, hout, ← hall, ← hq]
    rfl
  | cons b bs ih =>
    rw [List.length_cons] at hleft
    have hlt : s.blk.idx.toNat < s.blk.infoLen.toNat := by omega
    have hnext := State.stored_idx b (rxBytes bs ++ q) hlt
    have hcount' := (State.stored_payCount b (rxBytes bs ++ q) hlt).trans hnext.symm
    have hread : (s.stored b (rxBytes bs ++ q)).payloadRead bs q = s.payloadRead (b :: bs) q := by
      rw [State.payloadRead, hnext]
      rfl
    have hleft' : (s.stored b (rxBytes bs ++ q)).blk.idx.toNat + bs.length = s.blk.infoLen.toNat := by omega
    rw [List.length_cons, seqRun_succ hrst hc (execSInfoPay_byte hcap hlt h), ← hread]
    exact ih hrst hc hcap hcount' hleft' rfl

/-- An empty response: S_INFO_LEN's decision is the end (43_command_framer R183). -/
theorem seqRun_infoEmpty (hc : s.blk.state = codeInfoAck) (hidx : s.blk.idx = 0#32)
    (h : s.line.rxq = rxBytes [ackO, ackK, 0#8, 0#8] ++ q) : seqRun 6 s = .next { s.lengthRead 0#16 q with
      blk := { (s.lengthRead 0#16 q).blk with result := .success, state := codeRestore } } :=
  (seqRun_lengthRead (len := 0#16) hrst hc hidx h 1).trans
    (seqRun_eq_of_step (k := 0) hrst rfl (execSInfoLen_empty rfl rfl) rfl)

/-- A response with a payload: S_INFO_LEN goes on to S_INFO_PAY, which reads it (43_command_framer R183, R184). -/
theorem seqRun_infoPayload {len : BitVec 16} {payload : List Byte} (hc : s.blk.state = codeInfoAck)
    (hidx : s.blk.idx = 0#32) (hcount : s.blk.payCount = 0#16) (hne : payload ≠ [])
    (hlen : payload.length = len.toNat) (hcap : len.toNat ≤ s.params.payloadCap)
    (h : s.line.rxq = rxBytes [ackO, ackK, len.extractLsb' 0 8, len.extractLsb' 8 8] ++ (rxBytes payload ++ q)) :
    seqRun (6 + (payload.length + 1)) s =
      .next ((s.lengthRead len (rxBytes payload ++ q)).payloadStarted.payloadRead payload q) := by
  have hlen0 : len ≠ 0#16 := by
    rintro rfl
    exact hne (List.eq_nil_of_length_eq_zero hlen)
  have hcount0 : s.blk.payCount.toNat = (0#32).toNat := by
    rw [hcount]
    rfl
  rw [Nat.add_comm]
  refine (seqRun_lengthRead hrst hc hidx h (payload.length + 2)).trans ?_
  refine seqRun_eq_of_step hrst rfl (execSInfoLen_payload rfl hlen0 hcap) ?_
  exact seqRun_infoPay (s := (s.lengthRead len (rxBytes payload ++ q)).payloadStarted) hrst payload rfl hcap hcount0
    ((Nat.zero_add _).trans hlen) rfl

end

/-- Settles O48: after the pair and the length, an empty payload succeeds at once, any other is read byte by byte. -/
theorem infoResponseDecoded : Obligations.InfoResponseDecoded := by
  intro s payload len q hrst hc hidx hwf hcount hlen hcap hq
  by_cases hempty : payload = []
  · subst hempty
    obtain rfl : len = 0#16 := BitVec.eq_of_toNat_eq hlen.symm
    rw [if_pos rfl]
    exact ⟨_, seqRun_infoEmpty hrst hc hidx hq, rfl, rfl, rfl, hcount, rfl, nofun, fun _ _ => rfl, rfl, rfl⟩
  · rw [if_neg hempty]
    have hread (a : Nat) (h : a < payload.length) : (s.blk.payload.store 0 payload).read a = payload[a] := by
      rw [← Memory.read_store_inside hwf (a := 0) h, Nat.zero_add]
    exact ⟨_, seqRun_infoPayload hrst hc hidx hcount hempty hlen hcap hq, rfl, rfl, rfl, rfl, rfl, hread,
      fun a h => Memory.read_store_outside hwf (.inr (payload.length.zero_add.trans_le h)), rfl, rfl⟩

end Sys2Proof.Machine
end

section
/-! PROOF of SessionIgnoresBaud. Every SEQ step but that of S_FAILCHK is blind to HOST's registers, BAUD and CANCEL_FLAG;
S_FAILCHK reads CANCEL_FLAG only. So a step that keeps CANCEL_FLAG commutes with writing BAUD (44_host_interface R205). -/

namespace Sys2Proof.Machine

/-- The state with BAUD at this value. -/
def State.withBaud (s : State) (baud : Word) : State := s.withHost baud s.blk.cancelFlag

/-- A step blind to CANCEL_FLAG does not write it. -/
theorem BlindStep.keeps_cancelFlag {f : State → Result} (hf : BlindStep f) {s t : State} (h : f s = .next t) :
    t.blk.cancelFlag = s.blk.cancelFlag := by
  have hsame := hf s s.blk.baud s.blk.cancelFlag
  have hown : s.withHost s.blk.baud s.blk.cancelFlag = s := rfl
  rw [hown, h] at hsame
  rw [Host.Outcome.next.inj hsame]
  rfl

/-- A step blind to HOST's registers commutes with writing BAUD. -/
theorem BlindStep.withBaud {f : State → Result} (hf : BlindStep f) {s t : State} (h : f s = .next t) (baud : Word) :
    f (s.withBaud baud) = .next (t.withBaud baud) := by
  rw [State.withBaud, hf, h, State.withBaud, hf.keeps_cancelFlag h]
  rfl

/-- S_FAILCHK reads CANCEL_FLAG, and BAUD is no part of its decision (42_sync_negotiator R159). -/
theorem execSFailchk_withBaud {s t : State} (h : execSFailchk s = .next t) (baud : Word) :
    execSFailchk (s.withBaud baud) = .next (t.withBaud baud) := by
  rw [execSFailchk] at h
  split at h
  next hflag =>
    cases h
    exact if_pos hflag
  next hflag =>
    cases h
    exact if_neg hflag

/-- Whatever code STATE holds, its SEQ step commutes with writing BAUD. -/
theorem exec_decodeSeq_withBaud {c : StateCode} {s t : State} (h : exec (decodeSeq c) s = .next t) (baud : Word) :
    exec (decodeSeq c) (s.withBaud baud) = .next (t.withBaud baud) := by
  by_cases hc : c = codeFailchk
  · subst hc
    exact execSFailchk_withBaud h baud
  · exact (exec_decodeSeq_blind hc).withBaud h baud

/-- During reset a SEQ step holds (70_reset R270). -/
theorem State.perform_seq_of_rst {s : State} (hrst : s.rst = true) : s.perform .seq = .next s := by
  simp [State.perform, State.duringReset, blockedByReset, hrst]

/-- Settles O58: during reset the step holds, and outside reset it is the step of STATE's code, which no BAUD write moves. -/
theorem sessionIgnoresBaud : Obligations.SessionIgnoresBaud := by
  intro s t v h
  show (s.withBaud v).perform .seq = .next (t.withBaud v)
  cases hrst : s.rst with
  | true =>
    cases (State.perform_seq_of_rst hrst).symm.trans h
    exact State.perform_seq_of_rst hrst
  | false =>
    rw [State.perform_seq hrst] at h
    rw [State.perform_seq (s := s.withBaud v) hrst]
    exact exec_decodeSeq_withBaud h v

end Sys2Proof.Machine
end

section
/-! PROOF of the tier 1 statements about HOST's commands and registers: ignored writes, register reads, BAUD, START and
CANCEL (44_host_interface R201 to R216). Whether the block is busy, and whether BAUD is 0, decides what START and CANCEL do. -/

namespace Sys2Proof.Machine

/-! ## Registers -/

/-- Settles O14: none of these writes has an effect, and CTRL's read value is a constant. -/
theorem ignoredWrites : Obligations.IgnoredWrites := fun _ _ =>
  ⟨rfl, rfl, rfl, rfl, rfl, rfl, fun _ => rfl, fun _ => rfl, rfl, rfl⟩

/-- A 16-bit register is read with zeros above it (20_memory R67). -/
theorem setWidth_32_eq_append (v : BitVec 16) : v.setWidth 32 = 0#16 ++ v := by
  rw [BitVec.setWidth_eq_append (by decide)]
  rfl

theorem State.readInto_infoLen (s : State) : s.readInto 5 = s.setHostData (0#16 ++ s.blk.infoLen) :=
  congrArg s.setHostData (setWidth_32_eq_append s.blk.infoLen)

theorem State.readInto_payCount (s : State) : s.readInto 7 = s.setHostData (0#16 ++ s.blk.payCount) :=
  congrArg s.setHostData (setWidth_32_eq_append s.blk.payCount)

/-- Settles O16: the 32-bit registers are read as they stand, the two 16-bit ones with zeros above them. -/
theorem registerReads : Obligations.RegisterReads := fun s _ =>
  ⟨rfl, rfl, rfl, congrArg Host.Outcome.next s.readInto_infoLen, rfl, congrArg Host.Outcome.next s.readInto_payCount⟩

/-- Settles O20. -/
theorem baudWrite : Obligations.BaudWrite := fun _ _ => rfl

/-! ## START and CANCEL, by what decides them -/

section
variable {s : State} {d : Word}

/-- START outside a session, with a baud rate, begins one (44_host_interface R201). -/
theorem State.hostStart_of_baud (hbusy : s.blk.busy = false) (hbaud : s.blk.baud ≠ 0#32) :
    s.hostStart = { s with blk := { sessionCleared s.blk with state := codeOpen } } := by
  rcases s.hostStart_cases with ⟨h, -⟩ | ⟨-, -, h⟩ | ⟨-, h, -⟩
  · exact absurd h (by simp [hbusy])
  · exact h
  · exact absurd h hbaud

/-- START outside a session, with baud rate 0, ends it at once (44_host_interface R201, 60_exceptions R233). -/
theorem State.hostStart_of_no_baud (hbusy : s.blk.busy = false) (hbaud : s.blk.baud = 0#32) :
    s.hostStart = { s with blk := { sessionCleared s.blk with
      result := .fault, faultCause := .usage, faultInfo := faultInfoWord s.blk.state 0#16, state := codeDone } } := by
  rcases s.hostStart_cases with ⟨h, -⟩ | ⟨-, h, -⟩ | ⟨-, -, h⟩
  · exact absurd h (by simp [hbusy])
  · exact absurd hbaud h
  · exact h

theorem State.hostCancel_of_busy (hbusy : s.blk.busy = true) :
    s.hostCancel = { s with blk := { s.blk with cancelFlag := true } } := if_pos hbusy

theorem State.hostCancel_of_not_busy (hbusy : s.blk.busy = false) : s.hostCancel = s := if_neg (by simp [hbusy])

/-- DATA bit 1 alone decides whether CANCEL follows START (44_host_interface R204). -/
theorem execStart_without_cancel (hbit : d.getLsbD 1 = false) : execStart d s = .next s.hostStart := by
  rw [execStart, hbit]
  rfl

theorem execStart_with_cancel (hbit : d.getLsbD 1 = true) : execStart d s = .next s.hostStart.hostCancel := by
  rw [execStart, hbit]
  rfl

/-- A session that has just begun is busy. -/
theorem State.hostStart_busy (hbusy : s.blk.busy = false) (hbaud : s.blk.baud ≠ 0#32) : s.hostStart.blk.busy = true := by
  rw [State.hostStart_of_baud hbusy hbaud]
  rfl

/-- A START that faults leaves the block in S_DONE, not busy. -/
theorem State.hostStart_not_busy (hbusy : s.blk.busy = false) (hbaud : s.blk.baud = 0#32) :
    s.hostStart.blk.busy = false := by
  rw [State.hostStart_of_no_baud hbusy hbaud]
  rfl

/-- Where START faults, a CANCEL in the same write comes too late for a session (44_host_interface R202, R204). -/
theorem execStart_of_no_baud (hbusy : s.blk.busy = false) (hbaud : s.blk.baud = 0#32) :
    execStart d s = .next s.hostStart := by
  cases hbit : d.getLsbD 1 with
  | false => exact execStart_without_cancel hbit
  | true => rw [execStart_with_cancel hbit, State.hostCancel_of_not_busy (State.hostStart_not_busy hbusy hbaud)]

end

/-! ## The obligations -/

/-- Settles O21. -/
theorem startBeginsSession : Obligations.StartBeginsSession := fun _ _ hbit hbusy hbaud =>
  (execStart_without_cancel hbit).trans (congrArg Host.Outcome.next (State.hostStart_of_baud hbusy hbaud))

/-- SESSION_BAUD latches the 0 that BAUD holds. -/
theorem sessionCleared_of_no_baud {b : Block} (h : b.baud = 0#32) :
    sessionCleared b = { sessionCleared b with sessionBaud := 0#32 } :=
  congrArg (fun baud => { sessionCleared b with sessionBaud := baud }) h

/-- Settles O22: the START that faults is the whole effect, whether or not DATA asks for CANCEL too. -/
theorem startUsage : Obligations.StartUsage := by
  intro s d hbusy hbaud
  refine (execStart_of_no_baud hbusy hbaud).trans (congrArg Host.Outcome.next ?_)
  rw [State.hostStart_of_no_baud hbusy hbaud, sessionCleared_of_no_baud hbaud]
  rfl

/-- The mask 0xFFFFFFFD takes CANCEL out of a CTRL write. -/
theorem getLsbD_one_of_masked (d : Word) : (d &&& 0xFFFFFFFD#32).getLsbD 1 = false := by
  rw [BitVec.getLsbD_and]
  exact Bool.and_false _

/-- Settles O23: CANCEL in the same write finds the session that START began, or the one that START left alone. -/
theorem startWithCancel : Obligations.StartWithCancel := by
  intro s d
  refine ⟨fun hbusy hbaud hbit => ?_, fun hbusy hbit => ?_, fun hbusy hbit => ?_⟩
  · have hbegins := State.hostStart_of_baud hbusy hbaud
    have hflagged := State.hostCancel_of_busy (State.hostStart_busy hbusy hbaud)
    refine ⟨_, _, execStart_without_cancel (getLsbD_one_of_masked d), execStart_with_cancel hbit, ?_, hflagged, ?_⟩
    · rw [hbegins]
      rfl
    · rw [State.hostCancel_state, hbegins]
      rfl
  · exact (execStart_with_cancel hbit).trans
      (by rw [State.hostStart_of_busy hbusy, State.hostCancel_of_busy hbusy])
  · exact (execStart_without_cancel hbit).trans (by rw [State.hostStart_of_busy hbusy])

/-- Settles O24: the pin and the command are the one request. -/
theorem cancelRequests : Obligations.CancelRequests := by
  intro s d
  refine ⟨fun hbusy => ?_, fun hbusy => ?_⟩
  · have hset : execCancelIn s = .next { s with blk := { s.blk with cancelFlag := true } } :=
      congrArg Host.Outcome.next (State.hostCancel_of_busy hbusy)
    exact ⟨hset, hset⟩
  · have hhold : execCancelIn s = .next s := congrArg Host.Outcome.next (State.hostCancel_of_not_busy hbusy)
    exact ⟨hhold, hhold⟩

end Sys2Proof.Machine
end

section
/-! PROOF of WaitingStates. TIMER decides whether a timed wait holds or leaves, and the head of rxq where S_PROBE goes
(42_sync_negotiator R151, R153, R155, R160). -/

namespace Sys2Proof.Machine

/-- With the timer expired and no byte at the head of rxq, S_PROBE goes to S_FAILCHK (42_sync_negotiator R155). -/
theorem execSProbe_unanswered {s : State} (htimer : s.blk.timer = 0) (h : ∀ b q, s.line.rxq ≠ .byte b :: q) :
    execSProbe s = .next (s.goto codeFailchk) := by
  have hcount : s.line.rxCount = 0 := countBytes_of_head_ne_byte h
  rw [execSProbe_eq, if_pos htimer, if_pos hcount]

/-- Settles O34: each wait by TIMER, and S_PROBE by the head of rxq too. -/
theorem waitingStates : Obligations.WaitingStates := by
  refine fun s => ⟨rfl, rfl, fun htimer => ⟨?_, ?_, ?_⟩, fun htimer => ⟨?_, ?_, ?_⟩⟩
  · exact (execSSettle_eq s).trans (if_neg htimer)
  · exact (execSBackoff_eq s).trans (if_neg htimer)
  · exact (execSProbe_eq s).trans (if_neg htimer)
  · exact (execSSettle_eq s).trans (if_pos htimer)
  · exact (execSBackoff_eq s).trans (if_pos htimer)
  · split
    next h => exact execSProbe_answered htimer h
    next h => exact execSProbe_unanswered htimer h

end Sys2Proof.Machine
end

section
/-! PROOF of FaultEntry and TimerEvents. CFG_SAVED_VALID and then LINE_HELD decide where fault entry goes (60_exceptions
R241). Ticks are a quotient by 1000 rounded up, and outside reset the two timer events act on TIMER alone (R252). -/

namespace Sys2Proof.Machine

/-! ## Fault entry, by what decides it -/

section
variable {s : State} {c : Cause} {d : BitVec 16}

theorem State.raiseFault_of_owed (howed : s.blk.cfgSavedValid = true) :
    s.raiseFault c d = { s with blk := { s.blk with
      result := .fault, faultCause := c, faultInfo := faultInfoWord s.blk.state d, state := codeRestore } } := if_pos howed

/-- With no restore owed, LINE_HELD alone decides whether fault entry closes the line. -/
theorem State.raiseFault_of_not_owed (howed : s.blk.cfgSavedValid = false) :
    s.raiseFault c d =
      if s.blk.lineHeld then { s with
        blk := { s.blk with
          result := .fault, faultCause := c, faultInfo := faultInfoWord s.blk.state d, lineHeld := false, state := codeDone }
        line := s.line.requestClose }
      else { s with blk := { s.blk with
        result := .fault, faultCause := c, faultInfo := faultInfoWord s.blk.state d, state := codeDone } } :=
  if_neg (by simp [howed])

end

/-- Settles O25: a restore owed, a line to close, or neither. -/
theorem faultEntry : Obligations.FaultEntry := by
  refine fun s c d => ⟨fun howed => ?_, fun howed hheld => ?_, fun howed hheld => ?_⟩
  · exact State.raiseFault_of_owed howed
  · exact (State.raiseFault_of_not_owed howed).trans (if_pos hheld)
  · exact (State.raiseFault_of_not_owed howed).trans (if_neg (by simp [hheld]))

/-! ## The timer -/

/-- A wait's ticks are the least number of clock periods that last it (60_exceptions R252). -/
theorem msToTicks_ceil (fClk ms : Nat) :
    1000 * msToTicks fClk ms < ms * fClk + 1000 ∧ ms * fClk ≤ 1000 * msToTicks fClk ms := by
  rw [msToTicks]
  omega

theorem State.perform_tick {s : State} (hrst : s.rst = false) : s.perform .tick = .next s.timerTick := by
  simp [State.perform, hrst]

theorem State.perform_expire {s : State} (hrst : s.rst = false) : s.perform .expire = .next s.timerExpire := by
  simp [State.perform, hrst]

/-- A tick leaves an expired TIMER at 0. -/
theorem State.timerTick_eq (s : State) :
    s.timerTick = { s with blk := { s.blk with timer := if s.blk.timer > 0 then s.blk.timer - 1 else 0 } } := by
  have hticks : s.blk.timer - 1 = if s.blk.timer > 0 then s.blk.timer - 1 else 0 := by
    split <;> omega
  rw [← hticks, State.timerTick]

/-- Settles O42. -/
theorem timerEvents : Obligations.TimerEvents := by
  refine ⟨msToTicks_ceil, fun s hrst => ⟨?_, State.perform_expire hrst⟩⟩
  rw [State.perform_tick hrst, State.timerTick_eq]

end Sys2Proof.Machine
end

section
/-! PROOF of ResetBlocksTheBlock. While `rst` is 1 an event of the block's is lost, and an arrival at LINE does what it does
outside reset (70_reset R270, R272). -/

namespace Sys2Proof.Machine

/-- During reset an event of the block's has only the effect of a lost one (70_reset R270). -/
theorem State.perform_of_blocked {s : State} {e : Event} (hrst : s.rst = true) (hblocked : blockedByReset e = true) :
    s.perform e = s.duringReset e :=
  if_pos (Bool.and_eq_true_iff.2 ⟨hrst, hblocked⟩)

/-- What the peer sends for the sync reader is queued whatever `rst` is (70_reset R272). -/
theorem State.perform_syncIn (s : State) (bs : List Byte) :
    s.perform (.syncIn bs) = .next (s.setLine (s.line.append (rxBytes bs))) := by
  rw [← State.runEncoded_syncIn]
  simp [State.perform, blockedByReset]

/-- What the peer sends for the info reader is queued whatever `rst` is (70_reset R272). -/
theorem State.perform_infoIn (s : State) (bs : List Byte) :
    s.perform (.infoIn bs) = .next (s.setLine (s.line.append (rxBytes bs))) := by
  rw [← State.runEncoded_infoIn]
  simp [State.perform, blockedByReset]

/-- The reset pin is followed whatever its level was. -/
theorem State.perform_rst (s : State) (level : Bool) : s.perform (.rst level) = .next (s.resetPin level) := by
  simp [State.perform, blockedByReset]

/-- Settles O13: the block's events are lost, those of LINE and of the pin are not blocked. -/
theorem resetBlocksTheBlock : Obligations.ResetBlocksTheBlock := by
  intro s hrst
  refine ⟨?seq, ?clk, ?tick, ?expire, fun _ => ?pin, fun _ => ?wireOut, fun _ _ => ?host, fun es => ?rx, fun bs => ?syncIn,
    fun bs => ?infoIn, ?release⟩
  case rx => exact s.perform_line (.rx es)
  case syncIn => exact s.perform_syncIn bs
  case infoIn => exact s.perform_infoIn bs
  case release => exact s.perform_rst false
  case seq | clk | tick | expire | pin | wireOut | host => exact State.perform_of_blocked hrst rfl

end Sys2Proof.Machine
end
